-- ==== Sys2Proof/Word.lean ====
section
/-! DEFINITION. The words of the part and the four-channel container. -/

namespace Sys2Proof

/-- One 16-bit control word (R156). -/
abbrev Word := BitVec 16

/-- A 24-bit signed sample, ring value, anchor or template bin (R1, R28, R55); its number is `toInt`. -/
abbrev Sample := BitVec 24

/-- An admission serial (R32): it runs modulo 4,294,967,296. -/
abbrev Serial := BitVec 32

/-- A 32-bit saturating counter (R162). -/
abbrev Count := BitVec 32

/-- The channels 0 to 3. -/
inductive Channel
  | ch0 | ch1 | ch2 | ch3
  deriving DecidableEq, Repr

/-- One thing for each channel 0 to 3 (or for each profile slot 0 to 3). -/
structure Quad (α : Type) where
  c0 : α
  c1 : α
  c2 : α
  c3 : α
  deriving DecidableEq, Repr

/-- The entry of channel `c`. -/
def Quad.get {α : Type} (q : Quad α) : Channel → α
  | .ch0 => q.c0
  | .ch1 => q.c1
  | .ch2 => q.c2
  | .ch3 => q.c3

/-- `q` with the entry of channel `c` replaced. -/
def Quad.set {α : Type} (q : Quad α) (c : Channel) (v : α) : Quad α :=
  match c with
  | .ch0 => { q with c0 := v }
  | .ch1 => { q with c1 := v }
  | .ch2 => { q with c2 := v }
  | .ch3 => { q with c3 := v }

/-- The same thing for every channel. -/
def Quad.all {α : Type} (v : α) : Quad α := ⟨v, v, v, v⟩

/-- The four entries given channel by channel. -/
def Quad.build {α : Type} (f : Channel → α) : Quad α := ⟨f .ch0, f .ch1, f .ch2, f .ch3⟩

end Sys2Proof
end

