-- ==== Sys2Proof/Config.lean ====
section
/-! DEFINITION. The sizes and limits the spec fixes. The spec leaves no value open that a later step
can see, so there is no free value here. -/

namespace Sys2Proof.Config

/-- R29: the ring never holds more than 1,024 records. -/
def ringMax : Nat := 1024
/-- R6, R7: the consecutive-bad count stops at 256, where the link turns LOST. -/
def badLimit : Nat := 256
/-- R160: the reply buffer holds at most two replies. -/
def replyMax : Nat := 2
/-- R172: the event queue holds at most 32 records. -/
def queueMax : Nat := 32
/-- R156, R158: a message has at most 63 BODY words. -/
def bodyMax : Nat := 63
/-- R110: the log has 256 slots. -/
def logSlots : Nat := 256
/-- R119: one READ_LOG reply holds at most nine entries. -/
def logReplyMax : Nat := 9
/-- R45, R46, R53: the least period of a perforation or mains period. -/
def periodMin : Nat := 16
/-- R45, R46, R53: the largest perforation or mains period. -/
def periodMax : Nat := 16383
/-- R52: the perforation period after a reset. -/
def periodReset : Nat := 2000
/-- R128, R133: unity gain. -/
def unity : Nat := 4096
/-- R77: the largest residual magnitude. -/
def residualMax : Nat := 33554430

end Sys2Proof.Config
end

