-- ==== Sys2Proof/Syntax.lean ====
section
/-! DEFINITION. The commands of the part: one constructor for each row of spec/opcode_table.json. -/

namespace Sys2Proof

/-- The seven named markers (R1). The unused code 7 of a link frame is delivered as NONE (R3). -/
inductive Marker
  | none | perf | frame | framePerf | splice | reelStart | reelEnd
  deriving DecidableEq, Repr

/-- The triggers a pending exchange can wait for (R141). NOW is never pending. -/
inductive Trigger
  | nextFrame | nextSplice | streamStart
  deriving DecidableEq, Repr

/-- The steps of the part. Operands are what the spec gives each of them: the slot's bits, the slot's
marker and samples, a channel, a trigger, or the payload words of a message (R168). -/
inductive Instr
  /-- ARRIVAL (R5): one upstream frame slot, its 127 bits as received (R166). -/
  | arrival (bits : BitVec 127)
  /-- ARMED_START_TAKEN (R19): the delivered marker and the samples of the starting slot. -/
  | armedStartTaken (marker : Marker) (samples : Quad Sample)
  /-- PERF_MISS (R48). -/
  | perfMiss
  /-- NORMAL_CLOSE (R89), of one channel's context. -/
  | normalClose (ch : Channel)
  /-- RETIREMENT_END (R149). -/
  | retirementEnd
  /-- DRAIN_END (R26). -/
  | drainEnd
  /-- LINK_LOST (R7). -/
  | linkLost
  /-- PENDING_EXCHANGE (R147): the trigger that is met. -/
  | pendingExchange (trigger : Trigger)
  /-- MESSAGE_SENT (R165). -/
  | messageSent
  /-- QUERY_STATUS (R161). -/
  | queryStatus (payload : List Word)
  /-- READ_COUNTERS (R162). -/
  | readCounters (payload : List Word)
  /-- CLEAR_COUNTERS (R162). -/
  | clearCounters (payload : List Word)
  /-- WRITE_TABLE (R142). -/
  | writeTable (payload : List Word)
  /-- READ_TABLE (R144). -/
  | readTable (payload : List Word)
  /-- SWAP_BANKS (R145). -/
  | swapBanks (payload : List Word)
  /-- CANCEL_SWAP (R148). -/
  | cancelSwap (payload : List Word)
  /-- START_STREAM (R18). -/
  | startStream (payload : List Word)
  /-- STOP_STREAM (R24). -/
  | stopStream (payload : List Word)
  /-- RESUME (R180). -/
  | resume (payload : List Word)
  /-- SET_FRAME_TAG (R39). -/
  | setFrameTag (payload : List Word)
  /-- FORCE_DEFECT (R82). -/
  | forceDefect (payload : List Word)
  /-- READ_LOG (R119). -/
  | readLog (payload : List Word)
  /-- READ_TEMPLATE (R70). -/
  | readTemplate (payload : List Word)
  /-- LOAD_TEMPLATE (R71). -/
  | loadTemplate (payload : List Word)
  /-- SET_EVENT_MASK (R174). -/
  | setEventMask (payload : List Word)
  /-- READ_EVENT_SUMMARY (R173). -/
  | readEventSummary (payload : List Word)
  /-- ACK_FAULT (R179). -/
  | ackFault (payload : List Word)
  /-- STORE_PROFILE (R184). -/
  | storeProfile (payload : List Word)
  /-- RECALL_PROFILE (R185). -/
  | recallProfile (payload : List Word)
  /-- SOFT_RESET (R163). -/
  | softReset (payload : List Word)
  /-- HARD_RESET (R14): the reset input is asserted. -/
  | hardReset
  /-- POWER_UP (R181). -/
  | powerUp
  /-- HARD_RESET_RELEASE (R187): the reset input is released. -/
  | hardResetRelease
  /-- BOOT_RECALL_DONE (R187). -/
  | bootRecallDone
  /-- STORE_ERASE_END (R184). -/
  | storeEraseEnd
  /-- STORE_DONE (R184). -/
  | storeDone
  /-- RECALL_DONE (R185). -/
  | recallDone
  /-- POWER_DOWN (R183). -/
  | powerDown
  deriving DecidableEq, Repr

/-- The twenty-one commands a message can carry (R168). -/
inductive CmdCode
  | queryStatus | readCounters | clearCounters | writeTable | readTable | swapBanks | cancelSwap
  | startStream | stopStream | resume | setFrameTag | forceDefect | readLog | readTemplate
  | loadTemplate | setEventMask | readEventSummary | ackFault | storeProfile | recallProfile | softReset
  deriving DecidableEq, Repr

/-- The message a step stands for, if it is one of the commands: its command and its payload. -/
def Instr.message : Instr → Option (CmdCode × List Word)
  | .arrival _ => Option.none
  | .armedStartTaken _ _ => Option.none
  | .perfMiss => Option.none
  | .normalClose _ => Option.none
  | .retirementEnd => Option.none
  | .drainEnd => Option.none
  | .linkLost => Option.none
  | .pendingExchange _ => Option.none
  | .messageSent => Option.none
  | .queryStatus p => some (.queryStatus, p)
  | .readCounters p => some (.readCounters, p)
  | .clearCounters p => some (.clearCounters, p)
  | .writeTable p => some (.writeTable, p)
  | .readTable p => some (.readTable, p)
  | .swapBanks p => some (.swapBanks, p)
  | .cancelSwap p => some (.cancelSwap, p)
  | .startStream p => some (.startStream, p)
  | .stopStream p => some (.stopStream, p)
  | .resume p => some (.resume, p)
  | .setFrameTag p => some (.setFrameTag, p)
  | .forceDefect p => some (.forceDefect, p)
  | .readLog p => some (.readLog, p)
  | .readTemplate p => some (.readTemplate, p)
  | .loadTemplate p => some (.loadTemplate, p)
  | .setEventMask p => some (.setEventMask, p)
  | .readEventSummary p => some (.readEventSummary, p)
  | .ackFault p => some (.ackFault, p)
  | .storeProfile p => some (.storeProfile, p)
  | .recallProfile p => some (.recallProfile, p)
  | .softReset p => some (.softReset, p)
  | .hardReset => Option.none
  | .powerUp => Option.none
  | .hardResetRelease => Option.none
  | .bootRecallDone => Option.none
  | .storeEraseEnd => Option.none
  | .storeDone => Option.none
  | .recallDone => Option.none
  | .powerDown => Option.none

end Sys2Proof
end

