-- ==== Sys2Proof/Decode.lean ====
section
/-! DEFINITION. The link frame and HEAD layouts (R166, R167), the command codes (R168), and the words of
the opcode table (no row of the table has bits). -/

namespace Sys2Proof

/-- The number of bits of `x` that are 1. -/
def onesCount {n : Nat} (x : BitVec n) : Nat :=
  ((List.range n).filter (fun i => x.getLsbD i)).length

/-- The bit that makes the count of ones even (R1, R166). -/
def parityBit {n : Nat} (x : BitVec n) : Bool := onesCount x % 2 == 1

/-- The frame type of a link frame (R1). -/
inductive FrameType
  | idle | sample
  deriving DecidableEq, Repr

/-- The kind of a control word (R1). -/
inductive CtlKind
  | none | head | body | check
  deriving DecidableEq, Repr

/-- The fields of a link frame between the sync pattern and the parity bit (R1). -/
structure LinkFrame where
  ftype : FrameType
  markerCode : BitVec 3
  samples : Quad Sample
  kind : CtlKind
  data : Word
  deriving DecidableEq, Repr

/-- R166: IDLE 0, SAMPLE 1. -/
def FrameType.code : FrameType → BitVec 1
  | .idle => 0
  | .sample => 1

/-- R166: IDLE 0, SAMPLE 1. -/
def frameTypeOf (b : BitVec 1) : FrameType := if b = 0 then .idle else .sample

/-- R166: NONE 0, HEAD 1, BODY 2, CHECK 3. -/
def CtlKind.code : CtlKind → BitVec 2
  | .none => 0
  | .head => 1
  | .body => 2
  | .check => 3

/-- R166: NONE 0, HEAD 1, BODY 2, CHECK 3. -/
def ctlKindOf (b : BitVec 2) : CtlKind :=
  if b = 0 then .none else if b = 1 then .head else if b = 2 then .body else .check

/-- R166: the marker codes. -/
def Marker.code : Marker → BitVec 3
  | .none => 0
  | .perf => 1
  | .frame => 2
  | .framePerf => 3
  | .splice => 4
  | .reelStart => 5
  | .reelEnd => 6

/-- R3: the marker a code is delivered as; the unused code 7 is delivered as NONE. -/
def markerOf (b : BitVec 3) : Marker :=
  if b = 1 then .perf else if b = 2 then .frame else if b = 3 then .framePerf
  else if b = 4 then .splice else if b = 5 then .reelStart else if b = 6 then .reelEnd else .none

/-- R166: the sync pattern 1, 0, 1, 1, 0, 0, 0, 1. -/
def syncPattern : BitVec 8 := 0b10110001#8

/-- R166: fields 2 to 9 of a frame, first-sent bit most significant. -/
def LinkFrame.fields (f : LinkFrame) : BitVec 118 :=
  f.ftype.code ++ f.markerCode ++ f.samples.c0 ++ f.samples.c1 ++ f.samples.c2 ++ f.samples.c3
    ++ f.kind.code ++ f.data

/-- R13, R166: the 127 bits of a frame, with a new sync pattern and the parity over its fields. The
first-sent bit is the most significant. -/
def formFrame (f : LinkFrame) : BitVec 127 :=
  (syncPattern ++ f.fields ++ BitVec.ofBool (parityBit f.fields) : BitVec (8 + 118 + 1))

/-- The fields of a slot's bits, whatever its sync pattern and parity. -/
def frameFields (b : BitVec 127) : LinkFrame where
  ftype := frameTypeOf (b.extractLsb' 118 1)
  markerCode := b.extractLsb' 115 3
  samples := ⟨b.extractLsb' 91 24, b.extractLsb' 67 24, b.extractLsb' 43 24, b.extractLsb' 19 24⟩
  kind := ctlKindOf (b.extractLsb' 17 2)
  data := b.extractLsb' 1 16

/-- R2: the sync pattern stands where the frame begins, and the count of ones in fields 2 to 10 is even. -/
def frameSound (b : BitVec 127) : Bool :=
  b.extractLsb' 119 8 == syncPattern && onesCount (b.extractLsb' 0 119) % 2 == 0

/-- R1, R2: the fields of a sound slot; `none` for a BAD slot, whose fields are discarded unread. -/
def parseFrame (b : BitVec 127) : Option LinkFrame :=
  if frameSound b then some (frameFields b) else none

/-- R167: the command code of an upstream HEAD. -/
def headCode (w : Word) : BitVec 8 := w.extractLsb' 8 8

/-- R167: the payload length of an upstream HEAD. -/
def headLength (w : Word) : BitVec 8 := w.extractLsb' 0 8

/-- R168: the code of each command. -/
def CmdCode.code : CmdCode → BitVec 8
  | .queryStatus => 1
  | .readCounters => 2
  | .clearCounters => 3
  | .writeTable => 4
  | .readTable => 5
  | .swapBanks => 6
  | .cancelSwap => 7
  | .startStream => 8
  | .stopStream => 9
  | .resume => 10
  | .setFrameTag => 11
  | .forceDefect => 12
  | .readLog => 13
  | .readTemplate => 14
  | .loadTemplate => 15
  | .setEventMask => 16
  | .readEventSummary => 17
  | .ackFault => 18
  | .storeProfile => 19
  | .recallProfile => 20
  | .softReset => 21

/-- Every command, in the order of its code. -/
def CmdCode.list : List CmdCode :=
  [.queryStatus, .readCounters, .clearCounters, .writeTable, .readTable, .swapBanks, .cancelSwap,
   .startStream, .stopStream, .resume, .setFrameTag, .forceDefect, .readLog, .readTemplate,
   .loadTemplate, .setEventMask, .readEventSummary, .ackFault, .storeProfile, .recallProfile, .softReset]

/-- R168: the command of a code; codes 0 and 22 to 255 are not commands. -/
def cmdOf (code : BitVec 8) : Option CmdCode := CmdCode.list.find? (fun c => c.code == code)

/-- The step a command and its payload spell. -/
def instrOfCommand (c : CmdCode) (payload : List Word) : Instr :=
  match c with
  | .queryStatus => .queryStatus payload
  | .readCounters => .readCounters payload
  | .clearCounters => .clearCounters payload
  | .writeTable => .writeTable payload
  | .readTable => .readTable payload
  | .swapBanks => .swapBanks payload
  | .cancelSwap => .cancelSwap payload
  | .startStream => .startStream payload
  | .stopStream => .stopStream payload
  | .resume => .resume payload
  | .setFrameTag => .setFrameTag payload
  | .forceDefect => .forceDefect payload
  | .readLog => .readLog payload
  | .readTemplate => .readTemplate payload
  | .loadTemplate => .loadTemplate payload
  | .setEventMask => .setEventMask payload
  | .readEventSummary => .readEventSummary payload
  | .ackFault => .ackFault payload
  | .storeProfile => .storeProfile payload
  | .recallProfile => .recallProfile payload
  | .softReset => .softReset payload

/-- The step that a message's code and payload spell, if the code is a command code (R158). -/
def decodeMessage (code : BitVec 8) (payload : List Word) : Option Instr :=
  (cmdOf code).map (fun c => instrOfCommand c payload)

/-- The command that a word of the opcode table spells. No row of spec/opcode_table.json gives bits, so
no word spells one. -/
def decodeTableWord (_nbits _w : Nat) : Option Instr := none

end Sys2Proof
end

