-- ==== Sys2Proof/Machine/Fields.lean ====
section
/-! DEFINITION. The fields of a table set with their ranges and defaults (R136 to R139), and a stored
value with its parity bit. -/

namespace Sys2Proof.Machine

/-- The two banks. -/
inductive BankId
  | b0 | b1
  deriving DecidableEq, Repr

/-- The bank that `b` is not. -/
def BankId.opposite : BankId → BankId
  | .b0 => .b1
  | .b1 => .b0

/-- R169: bank 0 is carried as 0, bank 1 as 1. -/
def BankId.num : BankId → Nat
  | .b0 => 0
  | .b1 => 1

/-- The fields of the STREAM record, in field order (R137). -/
inductive StreamField
  | channelMask | lookahead | startMode | stopMode | mainsMode | mainsRatio | mainsFreePeriod
  | spliceGuard | spliceLen | missLimit | logMode | tagClear | policyTable | policyTemplate
  deriving DecidableEq, Repr

/-- The fields of a CHANNEL record, in field order (R138). -/
inductive ChannelField
  | perfEnable | mainsEnable | clickEnable | hissEnable | k | tFloor | maxLen | closeRun
  | perfShift | mainsShift | splitShift | attShift | relShift | gainShift | floorF | keepTemplates
  deriving DecidableEq, Repr

/-- One field of a table set. -/
inductive FieldRef
  | stream (f : StreamField)
  | chan (ch : Channel) (f : ChannelField)
  | gain (ch : Channel) (i : Fin 16)
  deriving DecidableEq, Repr

/-- The field's number less one (R137). -/
def StreamField.idx : StreamField → Fin 14
  | .channelMask => 0
  | .lookahead => 1
  | .startMode => 2
  | .stopMode => 3
  | .mainsMode => 4
  | .mainsRatio => 5
  | .mainsFreePeriod => 6
  | .spliceGuard => 7
  | .spliceLen => 8
  | .missLimit => 9
  | .logMode => 10
  | .tagClear => 11
  | .policyTable => 12
  | .policyTemplate => 13

/-- The field's number less one (R138). -/
def ChannelField.idx : ChannelField → Fin 16
  | .perfEnable => 0
  | .mainsEnable => 1
  | .clickEnable => 2
  | .hissEnable => 3
  | .k => 4
  | .tFloor => 5
  | .maxLen => 6
  | .closeRun => 7
  | .perfShift => 8
  | .mainsShift => 9
  | .splitShift => 10
  | .attShift => 11
  | .relShift => 12
  | .gainShift => 13
  | .floorF => 14
  | .keepTemplates => 15

/-- A field's range and default. -/
structure FieldSpec where
  lo : Nat
  hi : Nat
  dflt : Nat
  deriving DecidableEq, Repr

/-- R137, with named values carried as the codes of R143. -/
def streamSpec : Vector FieldSpec 14 :=
  #v[⟨1, 15, 1⟩, ⟨64, 1024, 256⟩, ⟨0, 2, 2⟩, ⟨0, 2, 2⟩, ⟨0, 1, 0⟩, ⟨1, 65535, 492⟩, ⟨0, 65535, 3840⟩,
     ⟨0, 65535, 4800⟩, ⟨0, 64, 8⟩, ⟨1, 255, 4⟩, ⟨0, 1, 0⟩, ⟨0, 1, 1⟩, ⟨0, 1, 0⟩, ⟨0, 1, 0⟩]

/-- R138, with clear 0 and set 1 (R143). -/
def channelSpec : Vector FieldSpec 16 :=
  #v[⟨0, 1, 0⟩, ⟨0, 1, 0⟩, ⟨0, 1, 0⟩, ⟨0, 1, 0⟩, ⟨16, 255, 96⟩, ⟨0, 33554430, 256⟩, ⟨1, 64, 32⟩,
     ⟨2, 16, 4⟩, ⟨4, 15, 8⟩, ⟨4, 15, 8⟩, ⟨1, 8, 3⟩, ⟨0, 12, 2⟩, ⟨0, 15, 9⟩, ⟨0, 10, 4⟩,
     ⟨1, 8388607, 4096⟩, ⟨0, 1, 0⟩]

/-- R139: every entry of a GAIN row. -/
def gainSpec : Vector FieldSpec 16 := Vector.replicate 16 ⟨0, 4096, 4096⟩

/-- The range and default of a field. -/
def fieldSpec : FieldRef → FieldSpec
  | .stream f => streamSpec[f.idx]
  | .chan _ f => channelSpec[f.idx]
  | .gain _ i => gainSpec[i]

/-- A table set with something at each field: stored fields in a bank, plain values in an image. -/
structure TableSetOf (α : Type) where
  stream : Vector α 14
  channel : Quad (Vector α 16)
  gain : Quad (Vector α 16)
  deriving DecidableEq, Repr

/-- What stands at one field. -/
def TableSetOf.field {α : Type} (t : TableSetOf α) : FieldRef → α
  | .stream f => t.stream[f.idx]
  | .chan ch f => (t.channel.get ch)[f.idx]
  | .gain ch i => (t.gain.get ch)[i]

/-- A value stored with its parity bit (R136). -/
structure Field where
  val : BitVec 32
  par : Bool
  deriving DecidableEq, Repr

/-- A field written afresh. -/
def freshField (v : BitVec 32) : Field := ⟨v, parityBit v⟩

/-- The parity check of a field. -/
def fieldOk (f : Field) : Bool := f.par == parityBit f.val

/-- The number a read of a field gives: its stored value, or its default where the check fails (R150). -/
def fieldRead (sp : FieldSpec) (f : Field) : Nat := if fieldOk f then f.val.toNat else sp.dflt

/-- A 24-bit value stored with its parity bit: a ring value (R28) or a template bin (R55). -/
structure Cell where
  val : Sample
  par : Bool
  deriving DecidableEq, Repr

/-- A value written afresh. -/
def freshCell (v : Sample) : Cell := ⟨v, parityBit v⟩

/-- The parity check of a stored value. -/
def cellOk (c : Cell) : Bool := c.par == parityBit c.val

/-- `x` clamped to `lo` to `hi` (00_scope.md, Conventions). -/
def clampNat (lo hi x : Nat) : Nat := max lo (min hi x)

/-- `x` clamped to `lo` to `hi` (00_scope.md, Conventions). -/
def clampInt (lo hi x : Int) : Int := max lo (min hi x)

/-- R143: a carried value, clamped to its field's range. -/
def clampField (sp : FieldSpec) (v : BitVec 32) : BitVec 32 := BitVec.ofNat 32 (clampNat sp.lo sp.hi v.toNat)

/-- R143: every field of an image clamped to its range. -/
def clampImage (t : TableSetOf (BitVec 32)) : TableSetOf (BitVec 32) where
  stream := Vector.zipWith clampField streamSpec t.stream
  channel := Quad.build (fun ch => Vector.zipWith clampField channelSpec (t.channel.get ch))
  gain := Quad.build (fun ch => Vector.zipWith clampField gainSpec (t.gain.get ch))

/-- R137 to R139: the default of every field. -/
def defaultImage : TableSetOf (BitVec 32) where
  stream := streamSpec.map (fun sp => BitVec.ofNat 32 sp.dflt)
  channel := Quad.all (channelSpec.map (fun sp => BitVec.ofNat 32 sp.dflt))
  gain := Quad.all (gainSpec.map (fun sp => BitVec.ofNat 32 sp.dflt))

/-- A bank filled with an image, every field with fresh parity (R136, R153). -/
def freshBank (t : TableSetOf (BitVec 32)) : TableSetOf Field where
  stream := t.stream.map freshField
  channel := Quad.build (fun ch => (t.channel.get ch).map freshField)
  gain := Quad.build (fun ch => (t.gain.get ch).map freshField)

/-- The image of a bank, each field read under the parity check: a failing field gives its default (R152). -/
def readImage (t : TableSetOf Field) : TableSetOf (BitVec 32) where
  stream := Vector.zipWith (fun sp f => BitVec.ofNat 32 (fieldRead sp f)) streamSpec t.stream
  channel := Quad.build (fun ch =>
    Vector.zipWith (fun sp f => BitVec.ofNat 32 (fieldRead sp f)) channelSpec (t.channel.get ch))
  gain := Quad.build (fun ch =>
    Vector.zipWith (fun sp f => BitVec.ofNat 32 (fieldRead sp f)) gainSpec (t.gain.get ch))

/-- R183: the sum, modulo 65,536, of the 16-bit halves of some field values. -/
def halvesSum (vs : List (BitVec 32)) : Word :=
  vs.foldl (fun a v => a + v.extractLsb' 0 16 + v.extractLsb' 16 16) 0

/-- R183: the fields of an image in order: STREAM, CHANNEL 0 to 3, GAIN 0 to 3. -/
def imageFields (t : TableSetOf (BitVec 32)) : List (BitVec 32) :=
  t.stream.toList ++ t.channel.c0.toList ++ t.channel.c1.toList ++ t.channel.c2.toList
    ++ t.channel.c3.toList ++ t.gain.c0.toList ++ t.gain.c1.toList ++ t.gain.c2.toList ++ t.gain.c3.toList

/-- R183: the check of an image. -/
def imageCheck (t : TableSetOf (BitVec 32)) : Word := halvesSum (imageFields t)

/-- A counter that stops at its largest value (00_scope.md, Conventions). -/
def satInc {n : Nat} (c : BitVec n) : BitVec n := if c = BitVec.allOnes n then c else c + 1

end Sys2Proof.Machine
end

