-- ==== Sys2Proof/Machine/State.lean ====
section
/-! DEFINITION. The state of the part: every piece of state the spec names, in one unit for each owner. -/

namespace Sys2Proof.Machine

/-- No command of the part stops it with a fault: the spec's faults (R176, R177) are next states. -/
inductive Fault
  deriving DecidableEq, Repr

/-- Why a command has no meaning. -/
inductive Refusal
  /-- Raised by `exec` for a command that has no meaning yet; safe. No arm raises it. -/
  | notModelled (mnemonic : String)
  deriving DecidableEq, Repr

/-- R15: whether the link is judged usable. -/
inductive LinkCond
  | good | lost
  deriving DecidableEq, Repr

/-- Chapter 2: the stream states. -/
inductive StreamState
  | idle | priming | running | draining
  deriving DecidableEq, Repr

/-- R178: the processing modes. -/
inductive Mode
  | normal | bypass | latched
  deriving DecidableEq, Repr

/-- Chapter 3: the tracker states. -/
inductive TrackerState
  | acquire | locked | coasting | lost
  deriving DecidableEq, Repr

/-- R55: the two engines of a channel. -/
inductive Engine
  | perf | mains
  deriving DecidableEq, Repr

/-- R140: the state of the bank that is not ACTIVE. -/
inductive OtherState
  | standby | retiring | loading
  deriving DecidableEq, Repr

/-- R111: how a defect ended. -/
inductive DefectOutcome
  | stillOpen | repaired | held | unrepaired
  deriving DecidableEq, Repr

/-- R167: the event kinds, in the order of their codes. -/
inductive EventKind
  | streamState | linkLost | linkRestored | perfLocked | perfLost | splice | frameTagWrap | logHalf
  | logWrap | logOverrun | swapDone | storeDone | recallDone | fault | doubleFault | eventsLost
  | resetDone | memoryCorrected
  deriving DecidableEq, Repr

/-- Chapter 11: the two kinds of fault. -/
inductive FaultKind
  | tableMemory | templateSaturation
  deriving DecidableEq, Repr

/-- R181: the causes of a hard reset. -/
inductive ResetCause
  | power | pin
  deriving DecidableEq, Repr

/-- The supply, the reset input (R14) and what a hard reset reports of the time before it (R181). -/
structure Power where
  supply : Bool
  resetInput : Bool
  cause : ResetCause
  priorStream : StreamState
  priorMode : Mode
  deriving DecidableEq, Repr

/-- The link receiver's state (chapter 1). -/
structure Link where
  cond : LinkCond
  badCount : Nat
  lastAccepted : Quad Sample
  deriving DecidableEq, Repr

/-- The stream controller's state (chapter 2). -/
structure Stream where
  state : StreamState
  armed : Bool
  lEff : Nat
  nextSerial : Serial
  deriving DecidableEq, Repr

/-- R28: the flags of one channel's entry. -/
structure RecFlags where
  flagged : Bool
  repaired : Bool
  held : Bool
  link : Bool
  memory : Bool
  noAdaptP : Bool
  noAdaptM : Bool
  deriving DecidableEq, Repr

/-- R28: one channel's entry of a frame record. -/
structure Entry where
  cell : Cell
  perfBin : BitVec 6
  mainsBin : BitVec 6
  flags : RecFlags
  deriving DecidableEq, Repr

/-- R28: a frame record. -/
structure FrameRecord where
  serial : Serial
  marker : Marker
  tag : BitVec 24
  offset : BitVec 16
  bank : BankId
  processed : Bool
  entries : Quad Entry
  deriving DecidableEq, Repr

/-- The film-position unit's state (chapter 3). -/
structure Film where
  tag : BitVec 24
  offset : BitVec 16
  guard : BitVec 16
  deriving DecidableEq, Repr

/-- The perforation tracker's state (chapter 3). -/
structure Tracker where
  state : TrackerState
  period : Nat
  since : BitVec 16
  miss : BitVec 8
  firstSeen : Bool
  deriving DecidableEq, Repr

/-- The periodic-noise canceller's state (chapter 4), with Pm. -/
structure Canceller where
  perfPhase : Quad Nat
  mainsPhase : Quad Nat
  mainsPeriod : Nat
  perfTpl : Quad (Vector Cell 64)
  mainsTpl : Quad (Vector Cell 64)
  deriving DecidableEq, Repr

/-- R76: a channel's history with its watched-run start: depth 0, 1 or 2. `aged` is the model's own mark:
the run has gone 1,024 positions past its start, which has therefore left the ring for good (R29), however
far the serials have run on since (R32). -/
inductive History
  | empty
  | one (start : Serial) (newest : Sample)
  | two (start : Serial) (newest older : Sample) (aged : Bool)
  deriving DecidableEq, Repr

/-- R83: a set of causes. -/
structure Causes where
  detected : Bool
  link : Bool
  splice : Bool
  command : Bool
  memory : Bool
  deriving DecidableEq, Repr

/-- R83: a defect context that is OPEN, or LONG where `long` is set. -/
structure Context where
  long : Bool
  first : Serial
  last : Serial
  tag : BitVec 24
  offset : BitVec 16
  causes : Causes
  peak : Option Nat
  cleanRun : Nat
  bank : BankId
  maxLen : Nat
  closeRun : Nat
  logIdx : Option (BitVec 8)
  deriving DecidableEq, Repr

/-- The click detector's state for one channel (chapter 5). A context of `none` is NONE. -/
structure Detector where
  hist : History
  level : Nat
  spliceCount : Nat
  commandCount : Nat
  ctx : Option Context
  maxLenEff : Nat
  deriving DecidableEq, Repr

/-- R111: a log entry. -/
structure LogEntry where
  channel : Channel
  causes : Causes
  outcome : DefectOutcome
  tag : BitVec 24
  offset : BitVec 16
  length : Nat
  peak : Option Nat
  bank : BankId
  deriving DecidableEq, Repr

/-- The defect log's state (chapter 7). The lost count is counter 10. -/
structure DefectLog where
  slots : Vector (Option LogEntry) 256
  writeIdx : BitVec 8
  readIdx : BitVec 8
  unread : Nat
  overrunReported : Bool
  appended : Bool
  deriving DecidableEq, Repr

/-- The hiss reducer's state for one channel (chapter 8): Lb, V and g. -/
structure Hiss where
  low : Int
  env : Nat
  gain : Nat
  deriving DecidableEq, Repr

/-- The table banks' state (chapter 9). -/
structure Tables where
  bank0 : TableSetOf Field
  bank1 : TableSetOf Field
  active : BankId
  other : OtherState
  pendingX : Option Trigger
  fault0 : Bool
  fault1 : Bool
  deriving DecidableEq, Repr

/-- R157: the message in assembly. -/
structure Assembly where
  code : BitVec 8
  length : BitVec 8
  count : Nat
  words : List Word
  sum : Word
  corrupt : Bool
  deriving DecidableEq, Repr

/-- R156: a reply: the code it answers and its body, the status word first. -/
structure Reply where
  code : BitVec 8
  body : List Word
  deriving DecidableEq, Repr

/-- The command unit's state (chapter 10). No assembly is WAIT_HEAD. -/
structure CommandUnit where
  assembly : Option Assembly
  replies : List Reply
  deriving DecidableEq, Repr

/-- R164: the message in transmission, the oldest reply or the oldest event, with the words sent. -/
structure Transmission where
  isReply : Bool
  sent : Nat
  deriving DecidableEq, Repr

/-- R171: an event record. -/
structure EventRecord where
  kind : EventKind
  channel : Option Channel
  tag : BitVec 24
  offset : BitVec 16
  param : Option (BitVec 32)
  deriving DecidableEq, Repr

/-- The event queue's state (chapter 11). `kept` is the pending set with its records. -/
structure Events where
  queue : List EventRecord
  mask : BitVec 32
  kept : Vector (Option EventRecord) 18
  seen : BitVec 32
  lost : Count
  deriving DecidableEq, Repr

/-- R176: a fault capture record. -/
structure Capture where
  kind : FaultKind
  channel : Option Channel
  engine : Option Engine
  tag : BitVec 24
  offset : BitVec 16
  stream : StreamState
  mode : Mode
  active : BankId
  double : Bool
  deriving DecidableEq, Repr

/-- The fault unit's state (chapter 11). -/
structure FaultUnit where
  capture : Option Capture
  double : Bool
  mode : Mode
  deriving DecidableEq, Repr

/-- R183: a profile slot. -/
structure Slot where
  valid : Bool
  image : TableSetOf (BitVec 32)
  check : Word
  deriving DecidableEq, Repr

/-- R184 to R187: the store engine's state with the operation in flight. Slot numbers are written as
channels 0 to 3 are. -/
inductive StoreOp
  | ready
  | erasing (slot : Channel) (image : TableSetOf (BitVec 32)) (check : Word)
  | programming (slot : Channel) (image : TableSetOf (BitVec 32)) (check : Word)
  | recalling (slot : Channel)
  | booting
  deriving DecidableEq, Repr

/-- The profile store's state (chapter 12). -/
structure ProfileStore where
  slots : Quad Slot
  op : StoreOp
  deriving DecidableEq, Repr

/-- R162: the fourteen counters, in their order. -/
structure Counters where
  badFrame : Count
  dropout : Count
  markerError : Count
  linkLoss : Count
  drainedInput : Count
  perfOutlier : Count
  subClip : Count
  detected : Count
  longDefect : Count
  logLost : Count
  strayWord : Count
  superseded : Count
  refusedMsg : Count
  replyOverrun : Count
  deriving DecidableEq, Repr

/-- R5, R12: what step 3 of an arrival gives the departing frame. -/
structure SlotOut where
  ftype : FrameType
  marker : Marker
  samples : Quad Sample
  deriving DecidableEq, Repr

/-- What the transmitter holds: the slot's outcome and the last frame sent (`none`: nothing departs). -/
structure Output where
  slot : SlotOut
  departed : Option (BitVec 127)
  deriving DecidableEq, Repr

/-- The model's own marks within one step: an admission's steps 2 to 4 are running, and the forced closes
of a mode change wait for their end (R91). -/
structure Work where
  admitting : Bool
  closesPending : Bool
  deriving DecidableEq, Repr

/-- The state of the part, and the queue of waiting commands. `upset` is the model's own: the channels whose
value, once the next admission has placed it in the ring, fails its parity check when the detector reads it
(R75). No command sets it (log entry 16). -/
structure State where
  pending : List Instr
  power : Power
  link : Link
  stream : Stream
  ring : List FrameRecord
  film : Film
  tracker : Tracker
  canc : Canceller
  det : Quad Detector
  lastOut : Quad Sample
  log : DefectLog
  hiss : Quad Hiss
  tables : Tables
  cmd : CommandUnit
  tx : Option Transmission
  events : Events
  fault : FaultUnit
  store : ProfileStore
  counters : Counters
  out : Output
  work : Work
  upset : Quad Bool
  deriving DecidableEq, Repr

/-- `s` with `pending` replaced. -/
def State.setPending (s : State) (x : List Instr) : State := { s with pending := x }

/-- `s` with `power` replaced. -/
def State.setPower (s : State) (x : Power) : State := { s with power := x }

/-- `s` with `link` replaced. -/
def State.setLink (s : State) (x : Link) : State := { s with link := x }

/-- `s` with `stream` replaced. -/
def State.setStream (s : State) (x : Stream) : State := { s with stream := x }

/-- `s` with `ring` replaced. -/
def State.setRing (s : State) (x : List FrameRecord) : State := { s with ring := x }

/-- `s` with `film` replaced. -/
def State.setFilm (s : State) (x : Film) : State := { s with film := x }

/-- `s` with `tracker` replaced. -/
def State.setTracker (s : State) (x : Tracker) : State := { s with tracker := x }

/-- `s` with `canc` replaced. -/
def State.setCanc (s : State) (x : Canceller) : State := { s with canc := x }

/-- `s` with `det` replaced. -/
def State.setDet (s : State) (x : Quad Detector) : State := { s with det := x }

/-- `s` with `lastOut` replaced. -/
def State.setLastOut (s : State) (x : Quad Sample) : State := { s with lastOut := x }

/-- `s` with `log` replaced. -/
def State.setLog (s : State) (x : DefectLog) : State := { s with log := x }

/-- `s` with `hiss` replaced. -/
def State.setHiss (s : State) (x : Quad Hiss) : State := { s with hiss := x }

/-- `s` with `tables` replaced. -/
def State.setTables (s : State) (x : Tables) : State := { s with tables := x }

/-- `s` with `cmd` replaced. -/
def State.setCmd (s : State) (x : CommandUnit) : State := { s with cmd := x }

/-- `s` with `tx` replaced. -/
def State.setTx (s : State) (x : Option Transmission) : State := { s with tx := x }

/-- `s` with `events` replaced. -/
def State.setEvents (s : State) (x : Events) : State := { s with events := x }

/-- `s` with `fault` replaced. -/
def State.setFault (s : State) (x : FaultUnit) : State := { s with fault := x }

/-- `s` with `store` replaced. -/
def State.setStore (s : State) (x : ProfileStore) : State := { s with store := x }

/-- `s` with `counters` replaced. -/
def State.setCounters (s : State) (x : Counters) : State := { s with counters := x }

/-- `s` with `out` replaced. -/
def State.setOut (s : State) (x : Output) : State := { s with out := x }

/-- `s` with `work` replaced. -/
def State.setWork (s : State) (x : Work) : State := { s with work := x }

/-- `s` with `upset` replaced. -/
def State.setUpset (s : State) (x : Quad Bool) : State := { s with upset := x }

/-- An empty IDLE slot (R11, R12). -/
def idleSlot : SlotOut := ⟨.idle, .none, Quad.all 0⟩

/-- All counters 0 (R162). -/
def Counters.zero : Counters := ⟨0, 0, 0, 0, 0, 0, 0, 0, 0, 0, 0, 0, 0, 0⟩

/-- R72: a template whose bins are all 0, with fresh parity. -/
def clearTemplate : Vector Cell 64 := Vector.replicate 64 ⟨0, false⟩

/-- R183: a slot that was never stored to. DESIGN CHOICE, log entry 1. -/
def blankSlot : Slot :=
  ⟨false, ⟨Vector.replicate 14 0, Quad.all (Vector.replicate 16 0), Quad.all (Vector.replicate 16 0)⟩, 0⟩

/-- R52, R72: the tracker after a reset. -/
def Tracker.atReset : Tracker := ⟨.acquire, Config.periodReset, 0, 0, false⟩

/-- R181: the RESET_DONE record of a power-up whose boot found slot 0 INVALID: 0 + 64 × 2. -/
def powerResetDone : EventRecord := ⟨.resetDone, none, 0, 0, some 128⟩

/-- The part right after a power-up whose boot recall has ended: the defaults in both banks, RESET_DONE
raised, the slots INVALID. DESIGN CHOICE on the moment and on the slots, log entry 1. -/
def State.reset : State where
  pending := []
  power := ⟨true, false, .power, .idle, .normal⟩
  link := ⟨.good, 0, Quad.all 0⟩
  stream := ⟨.idle, false, 256, 0⟩
  ring := []
  film := ⟨0, 0, 0⟩
  tracker := Tracker.atReset
  canc := ⟨Quad.all 0, Quad.all 0, 3843, Quad.all clearTemplate, Quad.all clearTemplate⟩
  det := Quad.all ⟨.empty, 0, 0, 0, none, 32⟩
  lastOut := Quad.all 0
  log := ⟨Vector.replicate 256 none, 0, 0, 0, false, false⟩
  hiss := Quad.all ⟨0, 0, Config.unity⟩
  tables := ⟨freshBank defaultImage, freshBank defaultImage, .b0, .standby, none, false, false⟩
  cmd := ⟨none, []⟩
  tx := none
  events := ⟨[powerResetDone], 0, Vector.replicate 18 none, 0x10000, 0⟩
  fault := ⟨none, false, .normal⟩
  store := ⟨Quad.all blankSlot, .ready⟩
  counters := Counters.zero
  out := ⟨idleSlot, none⟩
  work := ⟨false, false⟩
  upset := Quad.all false

end Sys2Proof.Machine
end

