-- ==== Sys2Proof/Machine/Flags.lean ====
section
/-! DEFINITION. The flag sets: a record entry's flags, the causes of a defect, the hold reasons, and how
named values are coded (R166, R169). -/

namespace Sys2Proof.Machine

/-- Channel numbers 0 to 3. -/
def channelNum : Channel → Nat
  | .ch0 => 0
  | .ch1 => 1
  | .ch2 => 2
  | .ch3 => 3

/-- The channel (or slot) of a number 0 to 3; a larger number is taken modulo 4. -/
def channelOf (n : Nat) : Channel :=
  match n % 4 with
  | 0 => .ch0
  | 1 => .ch1
  | 2 => .ch2
  | _ => .ch3

/-- Whether a channel is in a set of channels carried as bits 0 to 3 (R137). -/
def inMask (mask : Nat) (ch : Channel) : Bool := mask.testBit (channelNum ch)

/-- R28: no flags. -/
def noFlags : RecFlags := ⟨false, false, false, false, false, false, false⟩

/-- R28: the entry of an inactive channel. -/
def inactiveEntry : Entry := ⟨freshCell 0, 0, 0, noFlags⟩

/-- R83: no cause. -/
def noCauses : Causes := ⟨false, false, false, false, false⟩

/-- The causes of either set. -/
def joinCauses (a b : Causes) : Causes :=
  ⟨a.detected || b.detected, a.link || b.link, a.splice || b.splice, a.command || b.command,
   a.memory || b.memory⟩

/-- Whether a set of causes has any. -/
def anyCause (c : Causes) : Bool := c.detected || c.link || c.splice || c.command || c.memory

/-- DETECTED alone. -/
def detectedCause : Causes := ⟨true, false, false, false, false⟩

/-- R85: the larger of two peaks; an absent one gives way. -/
def joinPeak (old new : Option Nat) : Option Nat :=
  match old, new with
  | none, n => n
  | some a, none => some a
  | some a, some b => some (max a b)

/-- A bit as a number. -/
def bit (b : Bool) : Nat := if b then 1 else 0

/-- R170: the causes as five bits, DETECTED lowest. -/
def causesNum (c : Causes) : Nat :=
  bit c.detected + 2 * bit c.link + 4 * bit c.splice + 8 * bit c.command + 16 * bit c.memory

/-- R62: a set of hold reasons. -/
structure HoldSet where
  disabled : Bool
  guard : Bool
  tracker : Bool
  bypass : Bool
  stopped : Bool
  deriving DecidableEq, Repr

/-- R62: an engine is held when its set is not empty. -/
def isHeld (h : HoldSet) : Bool := h.disabled || h.guard || h.tracker || h.bypass || h.stopped

/-- R169: a hold set as five bits, DISABLED lowest. -/
def holdNum (h : HoldSet) : Nat :=
  bit h.disabled + 2 * bit h.guard + 4 * bit h.tracker + 8 * bit h.bypass + 16 * bit h.stopped

/-- R65: the entry holds none of FLAGGED, REPAIRED, HELD, LINK and MEMORY. -/
def adaptable (f : RecFlags) : Bool := !(f.flagged || f.repaired || f.held || f.link || f.memory)

/-- R65: the entry's NO_ADAPT flag of an engine. -/
def noAdapt (f : RecFlags) : Engine → Bool
  | .perf => f.noAdaptP
  | .mains => f.noAdaptM

/-- R169: IDLE 0, PRIMING 1, RUNNING 2, DRAINING 3. -/
def streamStateNum : StreamState → Nat
  | .idle => 0
  | .priming => 1
  | .running => 2
  | .draining => 3

/-- R169: NORMAL 0, BYPASS 1, LATCHED_BYPASS 2. -/
def modeNum : Mode → Nat
  | .normal => 0
  | .bypass => 1
  | .latched => 2

/-- R169: ACQUIRE 0, LOCKED 1, COASTING 2, LOST 3. -/
def trackerStateNum : TrackerState → Nat
  | .acquire => 0
  | .locked => 1
  | .coasting => 2
  | .lost => 3

/-- R169: GOOD 0, LOST 1. -/
def linkCondNum : LinkCond → Nat
  | .good => 0
  | .lost => 1

/-- R168: PERF 0, MAINS 1. -/
def engineNum : Engine → Nat
  | .perf => 0
  | .mains => 1

/-- R171: TABLE_MEMORY 0, TEMPLATE_SATURATION 1. -/
def faultKindNum : FaultKind → Nat
  | .tableMemory => 0
  | .templateSaturation => 1

/-- R170: OPEN 0, REPAIRED 1, HELD 2, UNREPAIRED 3. -/
def outcomeNum : DefectOutcome → Nat
  | .stillOpen => 0
  | .repaired => 1
  | .held => 2
  | .unrepaired => 3

/-- R169: the pending trigger: none 0, NEXT_FRAME 1, NEXT_SPLICE 2, STREAM_START 3. -/
def pendingNum : Option Trigger → Nat
  | none => 0
  | some .nextFrame => 1
  | some .nextSplice => 2
  | some .streamStart => 3

/-- R169: the store engine states READY 0, ERASING 1, PROGRAMMING 2, READING 3. -/
def engineStateNum : StoreOp → Nat
  | .ready => 0
  | .erasing _ _ _ => 1
  | .programming _ _ _ => 2
  | .recalling _ => 3
  | .booting => 3

/-- R167: the code of an event kind. -/
def kindNum : EventKind → Fin 18
  | .streamState => 0
  | .linkLost => 1
  | .linkRestored => 2
  | .perfLocked => 3
  | .perfLost => 4
  | .splice => 5
  | .frameTagWrap => 6
  | .logHalf => 7
  | .logWrap => 8
  | .logOverrun => 9
  | .swapDone => 10
  | .storeDone => 11
  | .recallDone => 12
  | .fault => 13
  | .doubleFault => 14
  | .eventsLost => 15
  | .resetDone => 16
  | .memoryCorrected => 17

/-- The bit of an event kind in a set of kinds (R173). -/
def kindBit (k : EventKind) : BitVec 32 := 1#32 <<< (kindNum k).val

/-- R159, R167: the reply statuses. -/
inductive Status
  | ok | okClamped | accepted | badCheck | badLength | badCommand | badParam | busy | wrongState
  | linkError | storeInvalid
  deriving DecidableEq, Repr

/-- R167: the code of a status. -/
def statusNum : Status → Nat
  | .ok => 0
  | .okClamped => 1
  | .accepted => 2
  | .badCheck => 3
  | .badLength => 4
  | .badCommand => 5
  | .badParam => 6
  | .busy => 7
  | .wrongState => 8
  | .linkError => 9
  | .storeInvalid => 10

end Sys2Proof.Machine
end

