-- ==== Sys2Proof/Machine/Operands.lean ====
section
/-! DEFINITION. How values lie in control words: pairs of words, packed bins, and the parameters of each
command's payload (R166, R168). -/

namespace Sys2Proof.Machine

/-- A word holding a number (modulo 65,536). -/
def wordOf (n : Nat) : Word := BitVec.ofNat 16 n

/-- R166: a value of two words, low word first. -/
def twoWords (v : BitVec 32) : List Word := [v.extractLsb' 0 16, v.extractLsb' 16 16]

/-- R166: a number as two words, low word first. -/
def twoWordsNat (n : Nat) : List Word := twoWords (BitVec.ofNat 32 n)

/-- R166: a signed value as two words: its 32-bit two's complement. -/
def twoWordsInt (i : Int) : List Word := twoWords (BitVec.ofInt 32 i)

/-- R166: the value of two words, low word first. -/
def fromTwo (lo hi : Word) : BitVec 32 := hi ++ lo

/-- The numbers in the bits `lo` to `lo + w - 1` of a word. -/
def wordBits (x : Word) (lo w : Nat) : Nat := (x.extractLsb' lo w).toNat

/-- R168: the 32-bit values carried by a list of words; an odd last word carries none. -/
def valuesOf : List Word → List (BitVec 32)
  | lo :: hi :: rest => fromTwo lo hi :: valuesOf rest
  | _ => []

/-- R168: the packed length of `c` bins. -/
def packedLength (c : Nat) : Nat := 3 * (c / 2) + (if c % 2 = 1 then 2 else 0)

/-- R168: bins packed in pairs; an odd last bin takes two words. -/
def packBins : List Sample → List Word
  | a :: b :: rest =>
    a.extractLsb' 0 16 :: (b.extractLsb' 16 8 ++ a.extractLsb' 16 8) :: b.extractLsb' 0 16 :: packBins rest
  | [a] => [a.extractLsb' 0 16, (0#8 ++ a.extractLsb' 16 8)]
  | [] => []

/-- R168: the bins that packed words carry. -/
def unpackBins : List Word → List Sample
  | w0 :: w1 :: w2 :: rest =>
    (w1.extractLsb' 0 8 ++ w0) :: (w1.extractLsb' 8 8 ++ w2) :: unpackBins rest
  | [w0, w1] => [w1.extractLsb' 0 8 ++ w0]
  | _ => []

/-- R168: the parameter word of READ_TEMPLATE and LOAD_TEMPLATE. -/
structure TemplateParam where
  channel : Channel
  engine : Engine
  first : Nat
  count : Nat
  deriving DecidableEq, Repr

/-- R168: channel (1 to 0), engine (2), first bin (8 to 3), count (14 to 9). -/
def templateParam (w : Word) : TemplateParam where
  channel := channelOf (wordBits w 0 2)
  engine := if wordBits w 2 1 = 0 then .perf else .mains
  first := wordBits w 3 6
  count := wordBits w 9 6

/-- R168: the READ_TEMPLATE word with another count. -/
def templateWord (p : TemplateParam) (count : Nat) : Word :=
  wordOf (channelNum p.channel + 4 * engineNum p.engine + 8 * p.first + 512 * count)

/-- The three tables (R168). -/
inductive TableCode
  | stream | channel | gain
  deriving DecidableEq, Repr

/-- R168: STREAM 0, CHANNEL 1, GAIN 2. -/
def tableNum : TableCode → Nat
  | .stream => 0
  | .channel => 1
  | .gain => 2

/-- R142, R168: the table (bits 7 to 0) and index (bits 15 to 8) that a word names: `none` where the table
is none of the three or the index is out of its range. -/
def tableParam (w : Word) : Option (TableCode × Channel) :=
  let table := wordBits w 0 8
  let index := wordBits w 8 8
  if table = 0 then (if index = 0 then some (.stream, .ch0) else none)
  else if table = 1 then (if index ≤ 3 then some (.channel, channelOf index) else none)
  else if table = 2 then (if index ≤ 3 then some (.gain, channelOf index) else none)
  else none

/-- R142: the number of fields of a record of a table. -/
def fieldCount : TableCode → Nat
  | .stream => 14
  | .channel => 16
  | .gain => 16

/-- R170: the six words of a log entry. -/
def logEntryWords (e : LogEntry) : List Word :=
  let peak := BitVec.ofNat 25 (e.peak.getD 0)
  [wordOf (channelNum e.channel + 4 * causesNum e.causes + 128 * outcomeNum e.outcome + 512 * e.bank.num
      + 1024 * bit e.peak.isSome + 2048 * (peak.extractLsb' 24 1).toNat),
   e.tag.extractLsb' 0 16,
   peak.extractLsb' 16 8 ++ e.tag.extractLsb' 16 8,
   peak.extractLsb' 0 16,
   e.offset,
   wordOf e.length]

/-- R170: the six words of an event record. An absent parameter is sent as 0. -/
def eventWords (r : EventRecord) : List Word :=
  [wordOf ((kindNum r.kind).val + 32 * bit r.channel.isSome
      + 64 * (r.channel.map channelNum).getD 0 + 256 * bit r.param.isSome),
   r.tag.extractLsb' 0 16,
   0#8 ++ r.tag.extractLsb' 16 8,
   r.offset] ++ twoWords (r.param.getD 0)

/-- R170: the four words of a fault capture record. -/
def captureWords (c : Capture) : List Word :=
  [wordOf (faultKindNum c.kind + 2 * bit c.channel.isSome + 4 * (c.channel.map channelNum).getD 0
      + 16 * bit c.engine.isSome + 32 * (c.engine.map engineNum).getD 0 + 64 * streamStateNum c.stream
      + 256 * modeNum c.mode + 1024 * c.active.num + 2048 * bit c.double),
   c.tag.extractLsb' 0 16,
   0#8 ++ c.tag.extractLsb' 16 8,
   c.offset]

/-- R167: a status word; `extra` is the first clamped field of an OK_CLAMPED reply to WRITE_TABLE. -/
def statusWord (st : Status) (extra : Nat) : Word := wordOf (statusNum st + 256 * extra)

/-- R170: the parameter of MEMORY_CORRECTED for a template bin. -/
def templateSource (eng : Engine) (bin : BitVec 6) : BitVec 32 :=
  BitVec.ofNat 32 (engineNum eng * 2 ^ 30 + bin.toNat)

/-- R170: the parameter of MEMORY_CORRECTED for a ring value. -/
def ringSource (serial : Serial) : BitVec 32 := BitVec.ofNat 32 (2 * 2 ^ 30 + serial.toNat % 2 ^ 30)

end Sys2Proof.Machine
end

