-- ==== Sys2Proof/Machine/Ops.lean ====
section
/-! DEFINITION. The shared operations: raising events, reading settings, reading and writing ring records,
counting, and replies. -/

namespace Sys2Proof.Machine

/-- An operation made for channels 0, 1, 2 and 3 in turn. -/
def eachChannel (f : Channel → State → State) (s : State) : State :=
  f .ch3 (f .ch2 (f .ch1 (f .ch0 s)))

/-! ### Events (R171, R172) -/

/-- The record of a raising: the frame tag and offset as they stand (R171). -/
def eventRecord (s : State) (k : EventKind) (ch : Option Channel) (p : Option (BitVec 32)) : EventRecord :=
  ⟨k, ch, s.film.tag, s.film.offset, p⟩

/-- R172 step 1: the kind joins the seen set. -/
def seeKind (k : EventKind) (e : Events) : Events := { e with seen := e.seen ||| kindBit k }

/-- Whether a kind is masked. -/
def isMasked (k : EventKind) (e : Events) : Bool := e.mask &&& kindBit k != 0

/-- R172 step 2: the record kept for a masked kind. -/
def keepRecord (r : EventRecord) (e : Events) : Events :=
  { e with kept := e.kept.set (kindNum r.kind) (some r) }

/-- R172 step 5: the record takes the newest place, or is dropped and counted where no room remains. -/
def placeRecord (r : EventRecord) (e : Events) : Events :=
  if e.queue.length < Config.queueMax then { e with queue := e.queue ++ [r] }
  else { e with lost := satInc e.lost }

/-- R172 step 4: EVENTS_LOST is raised with the count, which becomes 0. It finds room. -/
def raiseEventsLost (tag : BitVec 24) (offset : BitVec 16) (e : Events) : Events :=
  let r : EventRecord := ⟨.eventsLost, none, tag, offset, some e.lost⟩
  let e := seeKind .eventsLost { e with lost := 0 }
  if isMasked .eventsLost e then keepRecord r e else placeRecord r e

/-- R172 steps 3 to 5, also taken by a kept record that is unmasked (R174). -/
def offerRecord (tag : BitVec 24) (offset : BitVec 16) (r : EventRecord) (e : Events) : Events :=
  if e.queue.length ≥ Config.queueMax then { e with lost := satInc e.lost }
  else placeRecord r (if e.lost = 0 then e else raiseEventsLost tag offset e)

/-- R172: the event queue takes a raising. -/
def takeRaising (r : EventRecord) (e : Events) : Events :=
  let e := seeKind r.kind e
  if isMasked r.kind e then keepRecord r e else offerRecord r.tag r.offset r e

/-- R172: a block raises an event. -/
def raise (k : EventKind) (ch : Option Channel) (p : Option (BitVec 32)) (s : State) : State :=
  s.setEvents (takeRaising (eventRecord s k ch p) s.events)

/-! ### Settings (R150) -/

/-- The contents of a bank. -/
def bankOf (t : Tables) (b : BankId) : TableSetOf Field :=
  match b with
  | .b0 => t.bank0
  | .b1 => t.bank1

/-- The stored field of a bank. -/
def storedField (s : State) (b : BankId) (r : FieldRef) : Field := (bankOf s.tables b).field r

/-- R150: the number a read of a bank's field gives: the stored value, or the default where parity fails. -/
def setting (s : State) (b : BankId) (r : FieldRef) : Nat := fieldRead (fieldSpec r) (storedField s b r)

/-- A setting of the active bank. -/
def activeSetting (s : State) (r : FieldRef) : Nat := setting s s.tables.active r

/-- A channel is selected by a bank's channel_mask. -/
def selected (s : State) (b : BankId) (ch : Channel) : Bool := inMask (setting s b (.stream .channelMask)) ch

/-- A set-or-clear setting (R143: clear 0, set 1). -/
def isSet (s : State) (b : BankId) (r : FieldRef) : Bool := setting s b r != 0

/-- R151: a bank's table-fault flag. -/
def tableFault (t : Tables) (b : BankId) : Bool :=
  match b with
  | .b0 => t.fault0
  | .b1 => t.fault1

/-- A bank's table-fault flag set or cleared. -/
def withTableFault (t : Tables) (b : BankId) (v : Bool) : Tables :=
  match b with
  | .b0 => { t with fault0 := v }
  | .b1 => { t with fault1 := v }

/-- A bank's contents replaced. -/
def withBank (t : Tables) (b : BankId) (v : TableSetOf Field) : Tables :=
  match b with
  | .b0 => { t with bank0 := v }
  | .b1 => { t with bank1 := v }

/-- The bank that is not active: the standby bank of the commands (R140). -/
def standbyBank (t : Tables) : BankId := t.active.opposite

/-- The bank states as QUERY_STATUS and READ_TABLE code them (R168). -/
def bankStateNum (t : Tables) (b : BankId) : Nat :=
  if b = t.active then 0
  else match t.other with
    | .standby => 1
    | .retiring => 2
    | .loading => 3

/-- R150: the channel a TABLE_MEMORY fault names. -/
def fieldChannel : FieldRef → Option Channel
  | .stream _ => none
  | .chan ch _ => some ch
  | .gain ch _ => some ch

/-- R137: the codes of start_mode and stop_mode. -/
inductive StartStop
  | command | marker | either
  deriving DecidableEq, Repr

/-- R143: COMMAND 0, MARKER 1, EITHER 2; a code above the last takes the last. -/
def startStopOf (n : Nat) : StartStop :=
  match n with
  | 0 => .command
  | 1 => .marker
  | _ => .either

/-! ### The ring (R28, R29, R33) -/

/-- The number of records in the ring. -/
def State.occupancy (s : State) : Nat := s.ring.length

/-- R33: the number of ring records whose bank field names `b`. -/
def State.bankCount (s : State) (b : BankId) : Nat := s.ring.countP (fun r => r.bank == b)

/-- The record of a serial, if it is in the ring. -/
def ringFind (ring : List FrameRecord) (p : Serial) : Option FrameRecord :=
  ring.find? (fun r => r.serial == p)

/-- The ring with one channel's entry of one record rewritten. -/
def ringUpdate (p : Serial) (ch : Channel) (f : Entry → Entry) (ring : List FrameRecord) : List FrameRecord :=
  ring.map (fun r => if r.serial = p then { r with entries := r.entries.set ch (f (r.entries.get ch)) } else r)

/-- FLAGGED joins an entry's flags. -/
def markFlagged (e : Entry) : Entry := { e with flags := { e.flags with flagged := true } }

/-- MEMORY joins an entry's flags. -/
def markMemory (e : Entry) : Entry := { e with flags := { e.flags with memory := true } }

/-- R32: the serial of the newest admitted record. -/
def newestSerial (s : State) : Serial := s.stream.nextSerial - 1

/-! ### Replies (R159, R160) -/

/-- R159: a reply is placed at the newest end of the reply buffer. -/
def placeReply (code : BitVec 8) (body : List Word) (s : State) : State :=
  s.setCmd { s.cmd with replies := s.cmd.replies ++ [⟨code, body⟩] }

/-- A reply with a status and reply data. -/
def reply (c : CmdCode) (st : Status) (data : List Word) (s : State) : State :=
  placeReply c.code (statusWord st 0 :: data) s

/-- R158: a reply whose body is the status word alone. -/
def refuse (code : BitVec 8) (st : Status) (s : State) : State := placeReply code [statusWord st 0] s

/-! ### When the part runs (R14) -/

/-- The part has its supply and its reset input is not asserted. -/
def State.live (s : State) : Bool := s.power.supply && !s.power.resetInput

/-- The boot recall after a hard reset is still being read (R14, R187). -/
def State.booting (s : State) : Bool := s.store.op == .booting

/-- The part takes slots and commands as the chapters give. -/
def State.serving (s : State) : Bool := s.live && !s.booting

/-- One counter increased by one, saturating. -/
def countBadFrame (s : State) : State :=
  s.setCounters { s.counters with badFrame := satInc s.counters.badFrame }
/-- R6. -/
def countDropout (s : State) : State :=
  s.setCounters { s.counters with dropout := satInc s.counters.dropout }
/-- R3. -/
def countMarkerError (s : State) : State :=
  s.setCounters { s.counters with markerError := satInc s.counters.markerError }
/-- R7. -/
def countLinkLoss (s : State) : State :=
  s.setCounters { s.counters with linkLoss := satInc s.counters.linkLoss }
/-- R25. -/
def countDrained (s : State) : State :=
  s.setCounters { s.counters with drainedInput := satInc s.counters.drainedInput }
/-- R47. -/
def countOutlier (s : State) : State :=
  s.setCounters { s.counters with perfOutlier := satInc s.counters.perfOutlier }
/-- R60. -/
def countClip (s : State) : State :=
  s.setCounters { s.counters with subClip := satInc s.counters.subClip }
/-- R78. -/
def countDetected (s : State) : State :=
  s.setCounters { s.counters with detected := satInc s.counters.detected }
/-- R85. -/
def countLong (s : State) : State :=
  s.setCounters { s.counters with longDefect := satInc s.counters.longDefect }
/-- R115. -/
def countLogLost (s : State) : State :=
  s.setCounters { s.counters with logLost := satInc s.counters.logLost }
/-- R157. -/
def countStray (s : State) : State :=
  s.setCounters { s.counters with strayWord := satInc s.counters.strayWord }
/-- R157. -/
def countSuperseded (s : State) : State :=
  s.setCounters { s.counters with superseded := satInc s.counters.superseded }
/-- R158. -/
def countRefused (s : State) : State :=
  s.setCounters { s.counters with refusedMsg := satInc s.counters.refusedMsg }
/-- R158. -/
def countReplyOverrun (s : State) : State :=
  s.setCounters { s.counters with replyOverrun := satInc s.counters.replyOverrun }

/-- One channel's detector state replaced. -/
def setDetector (ch : Channel) (d : Detector) (s : State) : State := s.setDet (s.det.set ch d)

end Sys2Proof.Machine
end

