-- ==== Sys2Proof/Machine/DefectLog.lean ====
section
/-! DEFINITION. The defect log's operations (chapter 7). -/

namespace Sys2Proof.Machine

/-- The entry in a slot. -/
def logSlot (l : DefectLog) (i : BitVec 8) : Option LogEntry := l.slots[i.toNat]'i.isLt

/-- A slot written. -/
def writeSlot (i : BitVec 8) (e : LogEntry) (l : DefectLog) : DefectLog :=
  { l with slots := l.slots.set i.toNat (some e) i.isLt }

/-- R110: the unread entries, oldest first. -/
def unreadEntries (l : DefectLog) : List LogEntry :=
  (List.range l.unread).filterMap (fun k => logSlot l (l.readIdx + BitVec.ofNat 8 k))

/-- R116: the context of a channel no longer holds a log index. -/
def dropLogIndex (ch : Channel) (s : State) : State :=
  let d := s.det.get ch
  setDetector ch { d with ctx := d.ctx.map (fun c => { c with logIdx := none }) } s

/-- R115 step 1, R116: the oldest unread entry is discarded. -/
def discardOldest (s : State) : State :=
  let oldest := logSlot s.log s.log.readIdx
  let s := countLogLost (s.setLog { s.log with readIdx := s.log.readIdx + 1, unread := 255 })
  let s := if s.log.overrunReported then s
    else raise .logOverrun none (some s.counters.logLost) (s.setLog { s.log with overrunReported := true })
  match oldest with
  | some e => if e.outcome = .stillOpen then dropLogIndex e.channel s else s
  | none => s

/-- R115: an append; the slot written is the write index before it. -/
def appendEntry (e : LogEntry) (s : State) : State :=
  let s := if s.log.unread = Config.logSlots then discardOldest s else s
  let idx := s.log.writeIdx
  let s := s.setLog (writeSlot idx e s.log)
  let after := BitVec.ofNat 32 (s.log.unread + 1)
  let s := if idx = 128 then raise .logHalf none (some after) s
    else if idx = 0 && s.log.appended then raise .logWrap none (some after) s
    else s
  s.setLog { s.log with writeIdx := idx + 1, unread := s.log.unread + 1, appended := true }

/-- R83, R111: the length of a run of positions by serial difference, stopping at 65,535. -/
def logLength (first last : Serial) : Nat := min 65535 ((last - first).toNat + 1)

/-- R112: the entry of a closed context. -/
def closedEntry (ch : Channel) (o : DefectOutcome) (c : Context) : LogEntry :=
  ⟨ch, c.causes, o, c.tag, c.offset, logLength c.first c.last, c.peak, c.bank⟩

/-- R113: the entry of a context just opened. -/
def openEntry (ch : Channel) (c : Context) : LogEntry :=
  ⟨ch, c.causes, .stillOpen, c.tag, c.offset, 1, c.peak, c.bank⟩

/-- R114: the entry at an index is completed in place. -/
def completeEntry (i : BitVec 8) (o : DefectOutcome) (c : Context) (s : State) : State :=
  match logSlot s.log i with
  | none => s
  | some e =>
    s.setLog (writeSlot i
      { e with outcome := o, causes := c.causes, length := logLength c.first c.last, peak := c.peak } s.log)

/-- R114: what a close does to the log, by the index the context holds and the log_mode read
(AT_CLOSE 0, AT_OPEN 1). A context that lost its index to an overrun (R116) appends where AT_CLOSE is read
(DESIGN CHOICE, log entry 23). -/
def recordClose (ch : Channel) (o : DefectOutcome) (c : Context) (logMode : Nat) (s : State) : State :=
  match c.logIdx with
  | some i => completeEntry i o c s
  | none => if logMode = 0 then appendEntry (closedEntry ch o c) s else s

/-- R121: whether a slot holds an unread entry. -/
def isUnreadSlot (l : DefectLog) (i : BitVec 8) : Bool := decide ((i - l.readIdx).toNat < l.unread)

/-- R121: at a soft reset each unread entry whose outcome is OPEN becomes UNREPAIRED. -/
def completeOpenEntries (l : DefectLog) : DefectLog :=
  { l with slots := l.slots.mapIdx (fun i o =>
      if isUnreadSlot l (BitVec.ofNat 8 i) then
        o.map (fun e => if e.outcome = .stillOpen then { e with outcome := .unrepaired } else e)
      else o) }

/-- R119: how many of the oldest unread entries stand before the first OPEN one. -/
def returnable (l : DefectLog) : List LogEntry :=
  (unreadEntries l).takeWhile (fun e => e.outcome != .stillOpen)

end Sys2Proof.Machine
end

