-- ==== Sys2Proof/Machine/Repair.lean ====
section
/-! DEFINITION. The repair unit (chapter 6). -/

namespace Sys2Proof.Machine

/-- R96: the span of positions from which anchors may be taken. A `first` of `none` stands for a run whose
start has left the ring: it restricts no position that the ring still holds. -/
structure Span where
  first : Option Serial
  last : Serial
  deriving DecidableEq, Repr

/-- R32: whether position `q` is position `p` or comes after it, by serial difference modulo 2^32. -/
def notBefore (p q : Serial) : Bool := decide ((q - p).toNat < 2 ^ 31)

/-- R32, R97, R98: whether a position of the ring lies in a span. -/
def inSpan (sp : Span) (p : Serial) : Bool := (sp.first.all (fun f => notBefore f p)) && notBefore p sp.last

/-- R97, R98: the stored value of a position that can serve as an anchor: in the span and in the ring. -/
def anchorCell (s : State) (ch : Channel) (sp : Span) (p : Serial) : Option Cell :=
  if inSpan sp p then (ringFind s.ring p).map (fun r => (r.entries.get ch).cell) else none

/-- R99: the value an anchor supplies; one whose check fails is taken as missing. -/
def anchorValue (c : Option Cell) : Option Sample :=
  match c with
  | some c => if cellOk c then some c.val else none
  | none => none

/-- R99: the marks of an anchor read: MEMORY and MEMORY_CORRECTED where its check fails. -/
def readAnchor (ch : Channel) (p : Serial) (c : Option Cell) (s : State) : State :=
  match c with
  | some c =>
    if cellOk c then s
    else raise .memoryCorrected (some ch) (some (ringSource p)) (s.setRing (ringUpdate p ch markMemory s.ring))
  | none => s

/-- R101: the value of the i-th of `g` positions between anchors `a` and `b`. -/
def interpolate (a b : Int) (g i : Nat) : Int :=
  a + (2 * (b - a) * (i : Int) + ((g : Int) + 1)) / (2 * ((g : Int) + 1))

/-- The length of a run of positions by serial difference (R83). -/
def runLength (first last : Serial) : Nat := (last - first).toNat + 1

/-- R105, R106: positions `first` to `first + g - 1` of a channel take new values with fresh parity, and
their flags gain REPAIRED or HELD. The i-th position takes `value i`. -/
def fillRing (ch : Channel) (first : Serial) (g : Nat) (value : Nat → Sample) (held : Bool)
    (ring : List FrameRecord) : List FrameRecord :=
  ring.map (fun r =>
    let k := (r.serial - first).toNat
    if k < g then
      let e := r.entries.get ch
      let flags := if held then { e.flags with held := true } else { e.flags with repaired := true }
      { r with entries := r.entries.set ch { e with cell := freshCell (value (k + 1)), flags := flags } }
    else r)

/-- R100: the outcome that the anchors give. -/
def repairOutcome (a b : Option Sample) : DefectOutcome :=
  match a, b with
  | some _, some _ => .repaired
  | none, some _ => .repaired
  | some _, none => .held
  | none, none => .unrepaired

/-- R100 to R104: the fill that the anchors give. -/
def fillDefect (ch : Channel) (first last : Serial) (a b : Option Sample) (ring : List FrameRecord) :
    List FrameRecord :=
  let g := runLength first last
  match a, b with
  | some a, some b => fillRing ch first g (fun i => BitVec.ofInt 24 (interpolate a.toInt b.toInt g i)) false ring
  | none, some b => fillRing ch first g (fun i => BitVec.ofInt 24 (interpolate b.toInt b.toInt g i)) false ring
  | some a, none => fillRing ch first g (fun _ => a) true ring
  | none, none => ring

/-- R97: the leading anchor of a defect. -/
def leadCell (s : State) (ch : Channel) (first : Serial) (sp : Span) : Option Cell :=
  anchorCell s ch sp (first - 1)

/-- R98: the trailing anchor of a defect. -/
def trailCell (s : State) (ch : Channel) (last : Serial) (sp : Span) : Option Cell :=
  anchorCell s ch sp (last + 1)

/-- R96: the outcome of a repair. -/
def repairResult (s : State) (ch : Channel) (first last : Serial) (sp : Span) : DefectOutcome :=
  repairOutcome (anchorValue (leadCell s ch first sp)) (anchorValue (trailCell s ch last sp))

/-- R96: a repair: the anchors are read, the leading one first, and the positions are filled. -/
def repair (ch : Channel) (first last : Serial) (sp : Span) (s : State) : State :=
  let lead := leadCell s ch first sp
  let trail := trailCell s ch last sp
  let s := readAnchor ch (first - 1) lead s
  let s := readAnchor ch (last + 1) trail s
  s.setRing (fillDefect ch first last (anchorValue lead) (anchorValue trail) s.ring)

end Sys2Proof.Machine
end

