-- ==== Sys2Proof/Machine/FaultUnit.lean ====
section
/-! DEFINITION. Reads of table memory (R150), faults (R176, R177), closing a context (R89, R91) and the
processing mode leaving NORMAL (R178).

A failing table read may hand on a fault, a fault may close contexts, and a close reads a setting. The
circle is cut where the spec cuts it: each close finishes its log action before the next begins (R118), so
that the closes of a mode change made within a close follow it; and a fault that arises in the closes of a
mode change finds the mode no longer NORMAL and begins no closes of its own (R91, R177). -/

namespace Sys2Proof.Machine

/-! ### Faults -/

/-- R176 step 1: the capture record of a fault. -/
def captureOf (s : State) (k : FaultKind) (ch : Option Channel) (e : Option Engine) : Capture :=
  ⟨k, ch, e, s.film.tag, s.film.offset, s.stream.state, s.fault.mode, s.tables.active, s.fault.double⟩

/-- R171: the parameter of FAULT and DOUBLE_FAULT. -/
def faultParam (k : FaultKind) (e : Option Engine) : BitVec 32 :=
  BitVec.ofNat 32 (faultKindNum k + (match e with
    | none => 0
    | some .perf => 2
    | some .mains => 4))

/-- R137: the policy field of a fault kind (REPORT 0, BYPASS 1). -/
def policyField : FaultKind → FieldRef
  | .tableMemory => .stream .policyTable
  | .templateSaturation => .stream .policyTemplate

/-- R150: a policy read that fails sets the bank's table-fault flag and hands on no fault. -/
def notePolicy (k : FaultKind) (s : State) : State :=
  if fieldOk (storedField s s.tables.active (policyField k)) then s
  else s.setTables (withTableFault s.tables s.tables.active true)

/-- The processing mode replaced. -/
def withMode (m : Mode) (s : State) : State := s.setFault { s.fault with mode := m }

/-- R176, R177: the fault unit takes a fault; `leave` makes the effects of the mode leaving NORMAL. -/
def takeFaultWith (leave : State → State) (k : FaultKind) (ch : Option Channel) (e : Option Engine)
    (s : State) : State :=
  match s.fault.capture with
  | none =>
    let s := s.setFault { s.fault with capture := some (captureOf s k ch e) }
    let s := raise .fault ch (some (faultParam k e)) s
    let bypasses := activeSetting s (policyField k) = 1 ∧ s.fault.mode = .normal
    let s := notePolicy k s
    if bypasses then leave (withMode .bypass s) else s
  | some _ =>
    let wasNormal := s.fault.mode = .normal
    let s := withMode .latched s
    let s := if wasNormal then leave s else s
    let s := s.setFault { s.fault with double := true }
    raise .doubleFault ch (some (faultParam k e)) s

/-- R150: what a stage's read of a field does beside giving its value: the first failing read of a bank
sets its table-fault flag and hands `take` a TABLE_MEMORY fault. -/
def noteWith (take : FaultKind → Option Channel → Option Engine → State → State) (b : BankId) (r : FieldRef)
    (s : State) : State :=
  if fieldOk (storedField s b r) then s
  else if tableFault s.tables b then s
  else take .tableMemory (fieldChannel r) none (s.setTables (withTableFault s.tables b true))

/-! ### Closing a context -/

/-- R76: the watched-run start, absent where the history is empty. -/
def historyStart : History → Option Serial
  | .empty => none
  | .one st _ => some st
  | .two st _ _ _ => some st

/-- R96: the start of the watched run as it bounds the anchors' span: `none` where it has left the ring. A
context without a watched run (no run of the part reaches that) lends its own start. -/
def spanStart (c : Context) : History → Option Serial
  | .empty => some c.first
  | .one st _ => some st
  | .two st _ _ aged => if aged then none else some st

/-- The channel's context becomes NONE. -/
def clearContext (ch : Channel) (s : State) : State := setDetector ch { s.det.get ch with ctx := none } s

/-- R150, for a read made within a close: the effects of the mode leaving NORMAL wait for the close's end.
DOUBLE_FAULT (R177) does not wait with them: it is raised here, before the close's own log events and the
forced closes (DESIGN CHOICE, log entry 25). -/
def noteInner (b : BankId) (r : FieldRef) (s : State) : State := noteWith (takeFaultWith id) b r s

/-- R89 steps 1 to 4: a context is closed, its log action included. The anchors' span runs from the
watched-run start to `spanLast` (R96). -/
def closeOne (ch : Channel) (spanLast : Serial) (s : State) : State :=
  match (s.det.get ch).ctx with
  | none => s
  | some c =>
    let sp : Span := ⟨spanStart c (s.det.get ch).hist, spanLast⟩
    let o := if c.long then .unrepaired else repairResult s ch c.first c.last sp
    let s := if c.long then s else repair ch c.first c.last sp s
    let s := noteInner c.bank (.stream .logMode) s
    clearContext ch (recordClose ch o c (setting s c.bank (.stream .logMode)) s)

/-- R76: every history is emptied. -/
def emptyHistories (s : State) : State :=
  s.setDet (Quad.build (fun ch => { s.det.get ch with hist := .empty }))

/-- R91, R178: the forced closes of the mode leaving NORMAL, channels 0 to 3 in turn; then every history is
emptied. -/
def bypassCloses (s : State) : State :=
  emptyHistories (eachChannel (fun ch t => closeOne ch (newestSerial t) t) s)

/-- R91, R178: the effects of the mode leaving NORMAL: at once, or, within an admission, at the end of
the detector's work, behind a DOUBLE_FAULT of the same change (log entry 25). -/
def leaveNormal (s : State) : State :=
  if s.work.admitting then s.setWork { s.work with closesPending := true } else bypassCloses s

/-- R176, R177: a fault reaches the fault unit. -/
def takeFault (k : FaultKind) (ch : Option Channel) (e : Option Engine) (s : State) : State :=
  takeFaultWith leaveNormal k ch e s

/-- R150: a stage reads a field of a bank. -/
def note (b : BankId) (r : FieldRef) (s : State) : State := noteWith takeFault b r s

/-- R150: a stage reads a field of the active bank. -/
def noteActive (r : FieldRef) (s : State) : State := note s.tables.active r s

/-- R89, R91: a context is closed. Where its read of log_mode made the mode leave NORMAL, the effects of
that follow, once the close has finished its log action (R118, log entry 9). -/
def closeContext (ch : Channel) (spanLast : Serial) (s : State) : State :=
  let t := closeOne ch spanLast s
  if s.fault.mode = .normal ∧ t.fault.mode ≠ .normal then leaveNormal t else t

/-- R89: the clean run has reached the context's close_run: the context closes normally. -/
def normalCloseStep (ch : Channel) (s : State) : State :=
  match (s.det.get ch).ctx with
  | some c => if c.cleanRun = c.closeRun then closeContext ch (newestSerial s) s else s
  | none => s

/-- R178: after an admission's detector work, the closes of a mode change made within it. -/
def endAdmission (s : State) : State :=
  let waiting := s.work.closesPending
  let s := s.setWork { s.work with admitting := false, closesPending := false }
  if waiting then bypassCloses s else s

end Sys2Proof.Machine
end

