-- ==== Sys2Proof/Machine/Tracker.lean ====
section
/-! DEFINITION. The mains period (R53, R54), the perforation tracker (R44 to R52) and bank exchanges (R146). -/

namespace Sys2Proof.Machine

/-! ### The mains period and max_len_eff -/

/-- R53: Pm from the active bank and P (COUPLED 0, FREE 1). -/
def mainsPeriodOf (s : State) : Nat :=
  clampNat Config.periodMin Config.periodMax
    (if activeSetting s (.stream .mainsMode) = 0 then
      s.tracker.period * activeSetting s (.stream .mainsRatio) / 256
    else activeSetting s (.stream .mainsFreePeriod))

/-- R150: the reads of R53. -/
def noteMains (s : State) : State :=
  let s' := noteActive (.stream .mainsMode) s
  if activeSetting s (.stream .mainsMode) = 0 then noteActive (.stream .mainsRatio) s'
  else noteActive (.stream .mainsFreePeriod) s'

/-- R54: the phases tested against a new Pm. -/
def withMainsPeriod (pm : Nat) (c : Canceller) : Canceller :=
  if pm = c.mainsPeriod then c
  else { c with
    mainsPeriod := pm
    mainsPhase := Quad.build (fun ch => if c.mainsPhase.get ch ≥ pm then 0 else c.mainsPhase.get ch) }

/-- R54: Pm is recomputed. -/
def recomputeMains (s : State) : State :=
  let pm := mainsPeriodOf s
  let s := noteMains s
  s.setCanc (withMainsPeriod pm s.canc)

/-- R93: max_len_eff of a channel under the active bank. -/
def maxLenEffOf (s : State) (ch : Channel) : Nat :=
  min (activeSetting s (.chan ch .maxLen)) (s.stream.lEff - activeSetting s (.chan ch .closeRun) - 2)

/-- R93: max_len_eff is computed for every channel under the active bank. -/
def recomputeMaxLen (s : State) : State :=
  let lens := Quad.build (maxLenEffOf s)
  let s := eachChannel
    (fun ch t => noteActive (.chan ch .closeRun) (noteActive (.chan ch .maxLen) t)) s
  s.setDet (Quad.build (fun ch => { s.det.get ch with maxLenEff := lens.get ch }))

/-! ### Bank exchanges -/

/-- R146 steps 1 to 3. -/
def exchangedTables (s : State) : Tables :=
  { s.tables with
    pendingX := none
    active := s.tables.active.opposite
    other := if s.bankCount s.tables.active > 0 then .retiring else .standby }

/-- R146: an exchange of banks. -/
def exchangeBanks (s : State) : State :=
  let s := s.setTables (exchangedTables s)
  let s := recomputeMaxLen (recomputeMains s)
  raise .swapDone none (some (BitVec.ofNat 32 s.tables.active.num)) s

/-- R147: the exchange that is pending is carried out where its trigger is met. -/
def exchangeAt (t : Trigger) (s : State) : State :=
  if s.tables.pendingX = some t then exchangeBanks s else s

/-! ### The tracker -/

/-- R46: the window. -/
def trackerWindow (t : Tracker) : Nat := t.period / 8

/-- R51: the tracker enters ACQUIRE, keeping P. -/
def enterAcquire (t : Tracker) : Tracker :=
  { t with state := .acquire, since := 0, miss := 0, firstSeen := false }

/-- R44, R51: whether a marker is one for the tracker. -/
def isPerf : Marker → Bool
  | .perf => true
  | .framePerf => true
  | _ => false

/-- R46: the refined period. -/
def refinePeriod (p : Nat) (since : Nat) : Nat :=
  (clampInt Config.periodMin Config.periodMax ((p : Int) + ((since : Int) - (p : Int)) / 8)).toNat

/-- R46: the since count falls within P − W to P + W. -/
def inWindow (t : Tracker) : Bool :=
  decide (t.period - trackerWindow t ≤ t.since.toNat ∧ t.since.toNat ≤ t.period + trackerWindow t)

/-- R47: the since count falls below P − W. -/
def isEarly (t : Tracker) : Bool := decide (t.since.toNat < t.period - trackerWindow t)

/-- R45, R46, R50: whether the tracker accepts a PERF marker taken in state `t` (the since count already
increased). -/
def acceptsPerf (t : Tracker) : Bool :=
  match t.state with
  | .acquire => true
  | .locked => inWindow t
  | .coasting => inWindow t
  | .lost => true

/-- R45: a PERF marker in ACQUIRE. -/
def acquirePerf (s : State) : State :=
  let t := s.tracker
  let i := t.since.toNat
  if !t.firstSeen then s.setTracker { t with since := 0, firstSeen := true }
  else if Config.periodMin ≤ i ∧ i ≤ Config.periodMax then
    recomputeMains (raise .perfLocked none (some (BitVec.ofNat 32 i))
      (s.setTracker { t with state := .locked, period := i, since := 0, miss := 0 }))
  else s.setTracker { t with since := 0 }

/-- R46, R47, R49: a PERF marker in LOCKED or COASTING. -/
def lockedPerf (s : State) : State :=
  let t := s.tracker
  if inWindow t then
    let p := refinePeriod t.period t.since.toNat
    let s := s.setTracker { t with state := .locked, period := p, since := 0, miss := 0 }
    if p = t.period then s else recomputeMains s
  else if isEarly t then countOutlier s
  else s

/-- R45 to R50: the tracker takes a PERF or FRAME_PERF marker. -/
def takePerf (s : State) : State :=
  match s.tracker.state with
  | .acquire => acquirePerf s
  | .locked => lockedPerf s
  | .coasting => lockedPerf s
  | .lost => s.setTracker { enterAcquire s.tracker with firstSeen := true }

/-- R48: the tracker is LOCKED or COASTING and its since count has reached P + W. -/
def missDue (t : Tracker) : Bool :=
  (t.state == .locked || t.state == .coasting) && t.since.toNat == t.period + trackerWindow t

/-- R48: the tracker after a miss, with miss_limit as read. -/
def missed (missLimit : Nat) (t : Tracker) : Tracker :=
  { t with
    since := BitVec.ofNat 16 (trackerWindow t)
    miss := satInc t.miss
    state := if (satInc t.miss).toNat ≥ missLimit then .lost else .coasting }

/-- R48: a miss, where one is due. -/
def perfMissStep (s : State) : State :=
  if missDue s.tracker then
    let limit := activeSetting s (.stream .missLimit)
    let s := noteActive (.stream .missLimit) s
    let s := s.setTracker (missed limit s.tracker)
    if s.tracker.state = .lost then raise .perfLost none (some (BitVec.ofNat 32 s.tracker.period)) s else s
  else s

/-- R44: the since count increases before anything else. -/
def countSince (s : State) : State := s.setTracker { s.tracker with since := satInc s.tracker.since }

/-- R44: the tracker takes an admitted record. -/
def takeRecord (m : Marker) (s : State) : State :=
  let s := countSince s
  if isPerf m then takePerf s else perfMissStep s

/-- R51: whether the record's marker is accepted. -/
def markerAccepted (m : Marker) (s : State) : Bool := isPerf m && acceptsPerf (countSince s).tracker

end Sys2Proof.Machine
end

