-- ==== Sys2Proof/Machine/Canceller.lean ====
section
/-! DEFINITION. The periodic-noise canceller (chapter 4). -/

namespace Sys2Proof.Machine

/-! ### Templates -/

/-- The template of an engine of a channel. -/
def templateOf (c : Canceller) (ch : Channel) (e : Engine) : Vector Cell 64 :=
  match e with
  | .perf => c.perfTpl.get ch
  | .mains => c.mainsTpl.get ch

/-- A template replaced. -/
def withTemplate (ch : Channel) (e : Engine) (t : Vector Cell 64) (c : Canceller) : Canceller :=
  match e with
  | .perf => { c with perfTpl := c.perfTpl.set ch t }
  | .mains => { c with mainsTpl := c.mainsTpl.set ch t }

/-- A stored bin. -/
def binCell (c : Canceller) (ch : Channel) (e : Engine) (b : BitVec 6) : Cell :=
  (templateOf c ch e)[b.toNat]'b.isLt

/-- R61: the value a read of a bin takes: 0 where its parity fails. -/
def binValue (c : Canceller) (ch : Channel) (e : Engine) (b : BitVec 6) : Sample :=
  if cellOk (binCell c ch e b) then (binCell c ch e b).val else 0

/-- A bin written with fresh parity (R55). -/
def writeBin (ch : Channel) (e : Engine) (b : BitVec 6) (v : Sample) (c : Canceller) : Canceller :=
  withTemplate ch e ((templateOf c ch e).set b.toNat (freshCell v) b.isLt) c

/-- R61: a read that fails rewrites the bin with 0 and raises MEMORY_CORRECTED. -/
def readBin (ch : Channel) (e : Engine) (b : BitVec 6) (s : State) : State :=
  if cellOk (binCell s.canc ch e b) then s
  else raise .memoryCorrected (some ch) (some (templateSource e b)) (s.setCanc (writeBin ch e b 0 s.canc))

/-! ### Settings of an engine -/

/-- R138: an engine's enable. -/
def enableField (ch : Channel) : Engine → FieldRef
  | .perf => .chan ch .perfEnable
  | .mains => .chan ch .mainsEnable

/-- R138: an engine's adaptation shift. -/
def shiftField (ch : Channel) : Engine → FieldRef
  | .perf => .chan ch .perfShift
  | .mains => .chan ch .mainsShift

/-- R62: an engine's hold-reason set, tested now against a bank. -/
def holdSet (s : State) (b : BankId) (ch : Channel) (e : Engine) : HoldSet where
  disabled := !(selected s b ch && isSet s b (enableField ch e))
  guard := s.film.guard != 0
  tracker := e == .perf && s.tracker.state != .locked
  bypass := s.fault.mode != .normal
  stopped := s.stream.state == .idle || s.stream.state == .draining

/-! ### Phases and bins (R56) -/

/-- R56: the bin of a phase within a period. -/
def binOf (phase period : Nat) : BitVec 6 := BitVec.ofNat 6 (phase * 64 / period)

/-- R56 step 4: a phase advances and wraps at its period. -/
def nextPhase (phase period : Nat) : Nat := if phase + 1 ≥ period then 0 else phase + 1

/-- R56 step 1: an accepted marker sets the PERF phases to 0. -/
def perfPhaseNow (accepted : Bool) (phase : Nat) : Nat := if accepted then 0 else phase

/-- R56: the PERF bin the record takes on a channel. -/
def perfBinNow (s : State) (accepted : Bool) (ch : Channel) : BitVec 6 :=
  binOf (perfPhaseNow accepted (s.canc.perfPhase.get ch)) s.tracker.period

/-- R56: the MAINS bin the record takes on a channel. -/
def mainsBinNow (s : State) (ch : Channel) : BitVec 6 :=
  binOf (s.canc.mainsPhase.get ch) s.canc.mainsPeriod

/-- R56 step 4: the phases after the record. -/
def advancePhases (accepted : Bool) (s : State) : State :=
  s.setCanc { s.canc with
    perfPhase := Quad.build (fun ch =>
      nextPhase (perfPhaseNow accepted (s.canc.perfPhase.get ch)) s.tracker.period)
    mainsPhase := Quad.build (fun ch => nextPhase (s.canc.mainsPhase.get ch) s.canc.mainsPeriod) }

/-! ### Subtraction (R59, R60) -/

/-- R59: what an engine subtracts: its bin where it is enabled in the active bank, else 0. -/
def subtrahend (s : State) (ch : Channel) (e : Engine) (b : BitVec 6) : Int :=
  if isSet s s.tables.active (enableField ch e) then (binValue s.canc ch e b).toInt else 0

/-- R59: the difference before it is saturated. -/
def difference (s : State) (ch : Channel) (x : Sample) (pb mb : BitVec 6) : Int :=
  x.toInt - subtrahend s ch .perf pb - subtrahend s ch .mains mb

/-- R60: a number saturated to 24 bits. -/
def saturate24 (i : Int) : Sample := BitVec.ofInt 24 (clampInt (-8388608) 8388607 i)

/-- R60: whether a difference lies outside 24 bits. -/
def clips (i : Int) : Bool := decide (i < -8388608 ∨ 8388607 < i)

/-- R59 to R61: the marks of one channel's subtraction: the reads of its settings and bins, and the clip. Both
enables are read before either bin (DESIGN CHOICE, log entry 24). -/
def subtractMarks (ch : Channel) (x : Sample) (pb mb : BitVec 6) (s : State) : State :=
  let d := difference s ch x pb mb
  let a := s.tables.active
  let p := isSet s a (enableField ch .perf)
  let m := isSet s a (enableField ch .mains)
  let s := note a (enableField ch .mains) (note a (enableField ch .perf) s)
  let s := if p then readBin ch .perf pb s else s
  let s := if m then readBin ch .mains mb s else s
  if clips d then countClip s else s

/-! ### Adaptation (R65 to R67) -/

/-- R66: the bin after adding the increment, before it is clamped. -/
def adaptedSum (old : Sample) (e : Int) (shift : Nat) : Int := old.toInt + e / (2 ^ shift : Int)

/-- R66, R67: one engine adapts from a value; a clamped bin raises TEMPLATE_SATURATION. The shift is read
before the bin (DESIGN CHOICE, log entry 24). -/
def adaptBin (bank : BankId) (ch : Channel) (eng : Engine) (b : BitVec 6) (value : Sample) (s : State) : State :=
  let shift := setting s bank (shiftField ch eng)
  let s := note bank (shiftField ch eng) s
  let sum := adaptedSum (binValue s.canc ch eng b) value.toInt shift
  let s := readBin ch eng b s
  let s := s.setCanc (writeBin ch eng b (saturate24 sum) s.canc)
  if clips sum then takeFault .templateSaturation (some ch) (some eng) s else s

/-- R57: the bin a record stores for an engine. -/
def storedBin (en : Entry) : Engine → BitVec 6
  | .perf => en.perfBin
  | .mains => en.mainsBin

/-- R65: one engine of one channel adapts from a released record, if the record may be adapted from. -/
def adaptEngine (r : FrameRecord) (active : Bool) (hold : HoldSet) (failed : Bool) (value : Sample)
    (ch : Channel) (eng : Engine) (s : State) : State :=
  let en := r.entries.get ch
  if r.processed && active && !failed && adaptable en.flags && !noAdapt en.flags eng && !isHeld hold then
    adaptBin r.bank ch eng (storedBin en eng) value s
  else s

/-! ### Stream start and reset -/

/-- R69: whether a channel's templates are kept at a stream start. -/
def keepsTemplates (s : State) (ch : Channel) : Bool := isSet s s.tables.active (.chan ch .keepTemplates)

/-- R58, R69: the canceller's stream-start actions. -/
def startCanceller (s : State) : State :=
  let keep := Quad.build (keepsTemplates s)
  let s := eachChannel (fun ch t => noteActive (.chan ch .keepTemplates) t) s
  s.setCanc { s.canc with
    perfPhase := Quad.all 0
    mainsPhase := Quad.all 0
    perfTpl := Quad.build (fun ch => if keep.get ch then s.canc.perfTpl.get ch else clearTemplate)
    mainsTpl := Quad.build (fun ch => if keep.get ch then s.canc.mainsTpl.get ch else clearTemplate) }

end Sys2Proof.Machine
end

