-- ==== Sys2Proof/Machine/ClickDetector.lean ====
section
/-! DEFINITION. The click detector (chapter 5). -/

namespace Sys2Proof.Machine

/-! ### Reading and evaluating -/

/-- R75: the newest value in a history, or 0. -/
def newestValue : History → Sample
  | .empty => 0
  | .one _ v => v
  | .two _ v _ _ => v

/-- R76: position `n` with value `v` joins a history. -/
def pushHistory (n : Serial) (v : Sample) : History → History
  | .empty => .one n v
  | .one st w => .two st v w false
  | .two st w _ aged => .two st v w (aged || decide (Config.ringMax ≤ (n - st).toNat))

/-- R77: the residual of a centre: v[n] − 2·v[n−1] + v[n−2]. -/
def residual (vn v1 v2 : Sample) : Int := vn.toInt - 2 * v1.toInt + v2.toInt

/-- R78: the threshold. -/
def threshold (tFloor level k : Nat) : Nat := max tFloor (level * k / 16)

/-- R79: the level estimate after a clean centre. -/
def nextLevel (level absR : Nat) : Nat := ((level : Int) + ((absR : Int) - (level : Int)) / 64).toNat

/-- R32: whether position `p` comes after position `q`, by serial difference. -/
def isAfter (p q : Serial) : Bool := decide (0 < (p - q).toNat ∧ (p - q).toNat < 2 ^ 31)

/-! ### The defect context (R84 to R88) -/

/-- R84: the context opened by position `p`, whose record is `r`, with the close_run read. -/
def openedContext (s : State) (ch : Channel) (p : Serial) (causes : Causes) (peak : Option Nat)
    (closeRun : Nat) : Context where
  long := false
  first := p
  last := p
  tag := ((ringFind s.ring p).map (fun r => r.tag)).getD 0
  offset := ((ringFind s.ring p).map (fun r => r.offset)).getD 0
  causes := causes
  peak := peak
  cleanRun := 0
  bank := s.tables.active
  maxLen := (s.det.get ch).maxLenEff
  closeRun := closeRun
  logIdx := none

/-- A channel's context replaced. -/
def withContext (ch : Channel) (c : Option Context) (s : State) : State :=
  setDetector ch { s.det.get ch with ctx := c } s

/-- R84, R113: a flagged position opens a context; in AT_OPEN the log appends an OPEN entry and its index
is held by the context. -/
def openContext (ch : Channel) (p : Serial) (causes : Causes) (peak : Option Nat) (s : State) : State :=
  let closeRun := activeSetting s (.chan ch .closeRun)
  let s := noteActive (.chan ch .closeRun) s
  let c := openedContext s ch p causes peak closeRun
  let s := withContext ch (some c) s
  let atOpen := setting s c.bank (.stream .logMode) = 1
  let s := note c.bank (.stream .logMode) s
  if atOpen then
    let idx := s.log.writeIdx
    let s := appendEntry (openEntry ch c) s
    withContext ch ((s.det.get ch).ctx.map (fun c => { c with logIdx := some idx })) s
  else s

/-- R85, R86, R87: a context after a flagged position `p`. -/
def extendedContext (p : Serial) (causes : Causes) (peak : Option Nat) (c : Context) : Context :=
  let c := { c with causes := joinCauses c.causes causes, peak := joinPeak c.peak peak }
  if p = c.last then c
  else
    let tooLong := decide ((p - c.first).toNat + 1 > c.maxLen)
    { c with last := p, cleanRun := 0, long := c.long || tooLong }

/-- R84 to R87: a flagged position reaches a channel's context. -/
def settleFlagged (ch : Channel) (p : Serial) (causes : Causes) (peak : Option Nat) (s : State) : State :=
  match (s.det.get ch).ctx with
  | none => openContext ch p causes peak s
  | some c =>
    let c' := extendedContext p causes peak c
    let s := withContext ch (some c') s
    if c'.long && !c.long then countLong s else s

/-- R88, R89: a clean centre reaches a channel's context, and closes it where the clean run is full. -/
def settleClean (ch : Channel) (p : Serial) (s : State) : State :=
  match (s.det.get ch).ctx with
  | none => s
  | some c =>
    if isAfter p c.last then
      normalCloseStep ch (withContext ch (some { c with cleanRun := c.cleanRun + 1 }) s)
    else s

/-- R79: the level estimate is updated from a clean centre. -/
def updateLevel (ch : Channel) (absR : Nat) (s : State) : State :=
  let d := s.det.get ch
  setDetector ch { d with level := nextLevel d.level absR } s

/-- R80: whether a centre was forced at its own admission: its entry already carries FLAGGED. -/
def wasForced (s : State) (ch : Channel) (p : Serial) : Bool :=
  match ringFind s.ring p with
  | some r => (r.entries.get ch).flags.flagged
  | none => false

/-- R77 to R79, R88: the centre `n − 1` is evaluated and settled. -/
def evaluateCentre (ch : Channel) (n : Serial) (vn v1 v2 : Sample) (s : State) : State :=
  let c := n - 1
  let absR := (residual vn v1 v2).natAbs
  let t := threshold (activeSetting s (.chan ch .tFloor)) (s.det.get ch).level (activeSetting s (.chan ch .k))
  let s := noteActive (.chan ch .tFloor) (noteActive (.chan ch .k) s)
  let forced := wasForced s ch c
  if absR > t then
    let s := countDetected (s.setRing (ringUpdate c ch markFlagged s.ring))
    settleFlagged ch c detectedCause (some absR) s
  else if forced then s
  else settleClean ch c (updateLevel ch absR s)

/-! ### One admitted position (R74) -/

/-- R81, R82: one position of each countdown is used. -/
def useCounts (ch : Channel) (s : State) : State :=
  let d := s.det.get ch
  setDetector ch { d with spliceCount := d.spliceCount - 1, commandCount := d.commandCount - 1 } s

/-- R80: the forced causes of a watched position. -/
def forcedCauses (d : Detector) (link memory : Bool) : Causes :=
  ⟨false, link, decide (d.spliceCount > 0), decide (d.commandCount > 0), memory⟩

/-- R80: a forced position is flagged and settled. -/
def applyForced (ch : Channel) (n : Serial) (causes : Causes) (s : State) : State :=
  if anyCause causes then
    settleFlagged ch n causes none (s.setRing (ringUpdate n ch markFlagged s.ring))
  else s

/-- R75: the marks of a detector read that fails. -/
def failedRead (ch : Channel) (n : Serial) (s : State) : State :=
  raise .memoryCorrected (some ch) (some (ringSource n)) (s.setRing (ringUpdate n ch markMemory s.ring))

/-- R74 steps 1 to 5 for a watched position. -/
def watchPosition (ch : Channel) (r : FrameRecord) (s : State) : State :=
  let n := r.serial
  let en := r.entries.get ch
  let ok := cellOk en.cell
  let v := if ok then en.cell.val else newestValue (s.det.get ch).hist
  let s := if ok then s else failedRead ch n s
  let s := match (s.det.get ch).hist with
    | .two _ v1 v2 _ => evaluateCentre ch n v v1 v2 s
    | _ => s
  let s := applyForced ch n (forcedCauses (s.det.get ch) en.flags.link (!ok)) s
  let d := s.det.get ch
  useCounts ch (setDetector ch { d with hist := pushHistory n v d.hist } s)

/-- R74, R91: a position that is not watched: a forced close, the history emptied, the countdowns used. -/
def skipPosition (ch : Channel) (r : FrameRecord) (s : State) : State :=
  let s := closeContext ch (r.serial - 1) s
  let d := s.det.get ch
  useCounts ch (setDetector ch { d with hist := .empty } s)

/-- R74, R91: whether the admitted position is watched, with the mode as it stood at step 1 of R30 (the
record is processed exactly if it was NORMAL then). -/
def isWatched (s : State) (r : FrameRecord) (ch : Channel) : Bool :=
  r.processed && selected s s.tables.active ch && isSet s s.tables.active (.chan ch .clickEnable)

/-- R150: the reads of `isWatched`. -/
def noteWatched (r : FrameRecord) (ch : Channel) (s : State) : State :=
  if r.processed then
    let sel := selected s s.tables.active ch
    let s := noteActive (.stream .channelMask) s
    if sel then noteActive (.chan ch .clickEnable) s else s
  else s

/-- R74: the detector takes the newly admitted record on one channel. -/
def detectChannel (r : FrameRecord) (ch : Channel) (s : State) : State :=
  let watched := isWatched s r ch
  let s := noteWatched r ch s
  if watched then watchPosition ch r s else skipPosition ch r s

/-- R91, R76, R82: the detector at the entry to DRAINING: forced closes, histories emptied, command counts 0. -/
def drainDetector (s : State) : State :=
  let s := emptyHistories (eachChannel (fun ch t => closeContext ch (newestSerial t) t) s)
  s.setDet (Quad.build (fun ch => { s.det.get ch with commandCount := 0 }))

/-- R20, R43, R81, R82, R94: the detector at a stream start; `loaded` is the set of channels whose splice
count the starting arrival's own SPLICE loaded, which alone stand. -/
def startDetector (loaded : Nat) (s : State) : State :=
  s.setDet (Quad.build (fun ch =>
    let d := s.det.get ch
    { d with
      hist := .empty
      ctx := none
      spliceCount := if inMask loaded ch then d.spliceCount else 0
      commandCount := 0 }))

end Sys2Proof.Machine
end

