-- ==== Sys2Proof/Machine/Film.lean ====
section
/-! DEFINITION. The film-position unit: what a delivered marker does (chapter 3). -/

namespace Sys2Proof.Machine

/-- R36: FRAME and FRAME_PERF advance the frame tag; a NEXT_FRAME exchange comes first. -/
def deliverFrame (s : State) : State :=
  let s := exchangeAt .nextFrame s
  let wraps := s.film.tag = BitVec.allOnes 24
  let s := s.setFilm { s.film with tag := s.film.tag + 1, offset := 0 }
  if wraps then raise .frameTagWrap none none s else s

/-- R38: REEL_START clears the frame tag and offset where frame_tag_clear_on_reel is set. -/
def deliverReelStart (s : State) : State :=
  let clears := isSet s s.tables.active (.stream .tagClear)
  let s := noteActive (.stream .tagClear) s
  if clears then s.setFilm { s.film with tag := 0, offset := 0 } else s

/-- R43, R81: the splice counts of the selected channels are loaded. -/
def loadSpliceCounts (mask len : Nat) (s : State) : State :=
  s.setDet (Quad.build (fun ch =>
    let d := s.det.get ch
    if inMask mask ch then { d with spliceCount := len } else d))

/-- R41: a delivered SPLICE marker. -/
def deliverSplice (s : State) : State :=
  let s := exchangeAt .nextSplice s
  let guard := activeSetting s (.stream .spliceGuard)
  let s := noteActive (.stream .spliceGuard) s
  let s := s.setFilm { s.film with guard := BitVec.ofNat 16 guard }
  let len := activeSetting s (.stream .spliceLen)
  let mask := activeSetting s (.stream .channelMask)
  let s := noteActive (.stream .channelMask) (noteActive (.stream .spliceLen) s)
  let s := loadSpliceCounts mask len s
  let s := s.setTracker (enterAcquire s.tracker)
  raise .splice none none s

/-- R36, R38, R41: the film-position unit takes a delivered marker. -/
def deliverMarker (m : Marker) (s : State) : State :=
  match m with
  | .none => s
  | .perf => s
  | .frame => deliverFrame s
  | .framePerf => deliverFrame s
  | .splice => deliverSplice s
  | .reelStart => deliverReelStart s
  | .reelEnd => s

/-- R37: a counted slot increases the frame offset. -/
def countSlot (s : State) : State := s.setFilm { s.film with offset := satInc s.film.offset }

end Sys2Proof.Machine
end

