-- ==== Sys2Proof/Machine/HissReducer.lean ====
section
/-! DEFINITION. The hiss reducer (chapter 8). -/

namespace Sys2Proof.Machine

/-- R125: the low-band value after a step. -/
def nextLow (low y : Int) (shift : Nat) : Int := low + (y - low) / (2 ^ shift : Int)

/-- R126: the envelope after a step, with the shift that applies. -/
def nextEnv (env : Nat) (absH : Nat) (shift : Nat) : Nat :=
  ((env : Int) + ((absH : Int) - (env : Int)) / (2 ^ shift : Int)).toNat

/-- R127: the gain index: the bit length of floor(V / F), at most 15. -/
def gainIndex (env f : Nat) : Nat := ((List.range 15).filter (fun k => decide (2 ^ k ≤ env / f))).length

/-- R128: the gain after a step. -/
def nextGain (g entry : Nat) (shift : Nat) : Nat :=
  ((g : Int) + ((entry : Int) - (g : Int)) / (2 ^ shift : Int)).toNat

/-- R129: the output of a step. -/
def hissOut (low h : Int) (g : Nat) : Int := low + h * (g : Int) / 4096

/-- R127: the gain index as the number of a Gtab entry. -/
def gainSlot (env f : Nat) : Fin 16 := Fin.ofNat 16 (gainIndex env f)

/-- The settings of one hiss step, with the gain table's row (R124). -/
structure HissSettings where
  split : Nat
  att : Nat
  rel : Nat
  floorF : Nat
  gainShift : Nat
  gtab : Vector Nat 16

/-- R124: the settings of a channel in the released record's bank. -/
def hissSettings (s : State) (b : BankId) (ch : Channel) : HissSettings where
  split := setting s b (.chan ch .splitShift)
  att := setting s b (.chan ch .attShift)
  rel := setting s b (.chan ch .relShift)
  floorF := setting s b (.chan ch .floorF)
  gainShift := setting s b (.chan ch .gainShift)
  gtab := Vector.ofFn (fun i => setting s b (.gain ch i))

/-- R125: the high-band value of a step. -/
def highBand (c : HissSettings) (h : Hiss) (y : Int) : Int := y - nextLow h.low y c.split

/-- R126: whether the high band stands above the envelope. -/
def rises (c : HissSettings) (h : Hiss) (y : Int) : Bool := decide (h.env < (highBand c h y).natAbs)

/-- R125 to R128: Lb, V and g after a step. -/
def hissAfter (c : HissSettings) (h : Hiss) (y : Int) : Hiss :=
  let low := nextLow h.low y c.split
  let env := nextEnv h.env (highBand c h y).natAbs (if rises c h y then c.att else c.rel)
  ⟨low, env, nextGain h.gain c.gtab[gainSlot env c.floorF] c.gainShift⟩

/-- R129: the output value of a step. -/
def hissValue (c : HissSettings) (h : Hiss) (y : Int) : Int :=
  hissOut (hissAfter c h y).low (highBand c h y) (hissAfter c h y).gain

/-- R123: whether a channel of a released record makes a hiss step. -/
def makesHissStep (s : State) (r : FrameRecord) (active failed : Bool) (ch : Channel) : Bool :=
  r.processed && active && !failed && isSet s r.bank (.chan ch .hissEnable)

/-- R123, R124: the reads of a channel's hiss settings, each where it is applied (log entry 8). -/
def noteHiss (r : FrameRecord) (active failed : Bool) (y : Int) (ch : Channel) (s : State) : State :=
  let b := r.bank
  if r.processed && active && !failed then
    let steps := isSet s b (.chan ch .hissEnable)
    let c := hissSettings s b ch
    let h := s.hiss.get ch
    let s := note b (.chan ch .hissEnable) s
    if steps then
      let s := note b (.chan ch .splitShift) s
      let s := note b (.chan ch (if rises c h y then .attShift else .relShift)) s
      let s := note b (.chan ch .floorF) s
      let s := note b (.gain ch (gainSlot (hissAfter c h y).env c.floorF)) s
      note b (.chan ch .gainShift) s
    else s
  else s

end Sys2Proof.Machine
end

