-- ==== Sys2Proof/Machine/StreamController.lean ====
section
/-! DEFINITION. The stream controller and the delay ring: starts, admissions, releases and stops
(chapter 2). -/

namespace Sys2Proof.Machine

/-- R27: the stream state changes and STREAM_STATE is raised. -/
def enterState (st : StreamState) (s : State) : State :=
  raise .streamState none (some (BitVec.ofNat 32 (streamStateNum st)))
    (s.setStream { s.stream with state := st })

/-! ### Stream start (R20) -/

/-- R21: what a channel asks of the lookahead: nothing unless it is selected and click-enabled. -/
def channelTerm (s : State) (ch : Channel) : Nat :=
  if selected s s.tables.active ch && isSet s s.tables.active (.chan ch .clickEnable) then
    activeSetting s (.chan ch .maxLen) + activeSetting s (.chan ch .closeRun) + 2
  else 0

/-- R21: the effective lookahead at a stream start. -/
def startLookahead (s : State) : Nat :=
  min Config.ringMax (max (activeSetting s (.stream .lookahead))
    (max (max (channelTerm s .ch0) (channelTerm s .ch1)) (max (channelTerm s .ch2) (channelTerm s .ch3))))

/-- R150: the reads of R21. -/
def noteLookahead (s : State) : State :=
  let s := noteActive (.stream .channelMask) (noteActive (.stream .lookahead) s)
  eachChannel (fun ch t =>
    if selected t t.tables.active ch then
      let enabled := isSet t t.tables.active (.chan ch .clickEnable)
      let t := noteActive (.chan ch .clickEnable) t
      if enabled then noteActive (.chan ch .closeRun) (noteActive (.chan ch .maxLen) t) else t
    else t) s

/-- R133, R134: the hiss state at a stream start and at a reset. -/
def hissAtStart : Quad Hiss := Quad.all ⟨0, 0, Config.unity⟩

/-- R43, R81: the channels whose splice count the starting arrival's own marker loaded at its delivery:
those its bank's channel_mask selected, where the marker is SPLICE. -/
def spliceLoaded (m : Marker) (s : State) : Nat :=
  if m = .splice then activeSetting s (.stream .channelMask) else 0

/-- R20, with the start actions of the other blocks: a stream starts. `m` is the starting arrival's
delivered marker (R42, R43, R81: what a SPLICE it delivered loaded stands). -/
def startStreamNow (m : Marker) (s : State) : State :=
  let loaded := spliceLoaded m s
  let s := exchangeAt .streamStart s
  let lEff := startLookahead s
  let s := noteLookahead s
  let s := s.setStream { s.stream with lEff := lEff, nextSerial := 0, armed := false }
  let s := s.setLink { s.link with lastAccepted := Quad.all 0 }
  let s := enterState .priming s
  let s := recomputeMaxLen (startDetector loaded s)
  let s := startCanceller s
  let s := s.setTracker (enterAcquire s.tracker)
  let s := s.setHiss hissAtStart
  let s := s.setLastOut (Quad.all 0)
  if m = .splice then s else s.setFilm { s.film with guard := 0 }

/-! ### Stop (R25) -/

/-- R25: the stream enters DRAINING. -/
def enterDraining (s : State) : State := drainDetector (enterState .draining s)

/-! ### Admission (R30) -/

/-- R10, R63: the flags an entry takes at admission. -/
def admittedFlags (held guarded trackerHold : Bool) : RecFlags :=
  { noFlags with link := held, noAdaptP := guarded || trackerHold, noAdaptM := guarded }

/-- R28, R57, R59, R63: the entry of one channel of a record being admitted. -/
def admittedEntry (s : State) (processed held guarded accepted : Bool) (x : Quad Sample) (ch : Channel) :
    Entry :=
  if selected s s.tables.active ch then
    let pb := perfBinNow s accepted ch
    let mb := mainsBinNow s ch
    let v := if processed then saturate24 (difference s ch (x.get ch) pb mb) else x.get ch
    ⟨freshCell v, pb, mb, admittedFlags held guarded (s.tracker.state != .locked)⟩
  else inactiveEntry

/-- R59 to R61: the marks of the subtractions of one record. -/
def subtractAll (processed accepted : Bool) (x : Quad Sample) (s : State) : State :=
  eachChannel (fun ch t =>
    if processed && selected t t.tables.active ch then
      subtractMarks ch (x.get ch) (perfBinNow t accepted ch) (mainsBinNow t ch) t
    else t) s

/-- R42: the splice guard countdown decreases at an admission. -/
def useGuard (s : State) : State :=
  if s.film.guard = 0 then s else s.setFilm { s.film with guard := s.film.guard - 1 }

/-- R30 step 3: the record is placed. -/
def placeInRing (r : FrameRecord) (s : State) : State :=
  (s.setRing (s.ring ++ [r])).setStream { s.stream with nextSerial := s.stream.nextSerial + 1 }

/-- R75: the parity bit of a stored value turned over where the value is upset. -/
def upsetCell (u : Bool) (c : Cell) : Cell := { c with par := c.par != u }

/-- R75: a placed record whose values are upset before the detector reads them (log entry 16). -/
def upsetRecord (u : Quad Bool) (r : FrameRecord) : FrameRecord :=
  { r with entries := Quad.build (fun ch =>
      { r.entries.get ch with cell := upsetCell (u.get ch) (r.entries.get ch).cell }) }

/-- R30 steps 1 to 4. `stamp` is the frame offset before the slot was counted; `samples` is `none` for a
held record (R10). -/
def admitRecord (m : Marker) (stamp : BitVec 16) (samples : Option (Quad Sample)) (s : State) : State :=
  let x := samples.getD s.link.lastAccepted
  let s := s.setLink { s.link with lastAccepted := x }
  let processed := s.fault.mode == .normal
  let bank := s.tables.active
  let s := s.setWork { s.work with admitting := true }
  let guarded := s.film.guard != 0
  let s := useGuard s
  let accepted := markerAccepted m s
  let s := takeRecord m s
  let s := noteActive (.stream .channelMask) s
  let entries := Quad.build (admittedEntry s processed samples.isNone guarded accepted x)
  let s := advancePhases accepted (subtractAll processed accepted x s)
  let r : FrameRecord := ⟨s.stream.nextSerial, m, s.film.tag, stamp, bank, processed, entries⟩
  let r := upsetRecord s.upset r
  let s := (placeInRing r s).setUpset (Quad.all false)
  endAdmission (eachChannel (detectChannel r) s)

/-- R22: an admission in PRIMING that brings the occupancy to L_eff turns the stream RUNNING. -/
def checkRunning (s : State) : State :=
  if s.stream.state = .priming ∧ s.occupancy = s.stream.lEff then enterState .running s else s

/-- R30 step 5: R22 or R23. -/
def afterAdmission (m : Marker) (s : State) : State :=
  if m = .reelEnd then
    let stops := startStopOf (activeSetting s (.stream .stopMode)) ≠ .command
    let s := noteActive (.stream .stopMode) s
    if stops then enterDraining s else checkRunning s
  else checkRunning s

/-- R30: an admission. -/
def admitSlot (m : Marker) (stamp : BitVec 16) (samples : Option (Quad Sample)) (s : State) : State :=
  afterAdmission m (admitRecord m stamp samples s)

/-! ### Release (R31) -/

/-- R149: a RETIRING bank with no record left in the ring becomes STANDBY. -/
def retirementEndStep (s : State) : State :=
  if s.tables.other = .retiring ∧ s.bankCount s.tables.active.opposite = 0 then
    s.setTables { s.tables with other := .standby }
  else s

/-- R26: in DRAINING, a release that empties the ring returns the stream to IDLE. -/
def checkDrained (s : State) : State :=
  if s.stream.state = .draining ∧ s.ring = [] then enterState .idle s else s

/-- R108: whether an active channel's value of a released record fails its check. -/
def failsRelease (r : FrameRecord) (ch : Channel) : Bool := !cellOk (r.entries.get ch).cell

/-- R108: the checked value of a channel: the last output value where the check fails. -/
def checkedValue (s : State) (r : FrameRecord) (ch : Channel) : Sample :=
  if failsRelease r ch then s.lastOut.get ch else (r.entries.get ch).cell.val

/-- R108: MEMORY_CORRECTED for each failing value, channels 0 to 3. -/
def releaseMarks (r : FrameRecord) (mask : Nat) (s : State) : State :=
  eachChannel (fun ch t =>
    if inMask mask ch && failsRelease r ch then
      raise .memoryCorrected (some ch) (some (ringSource r.serial)) t
    else t) s

/-- R62: the reads of the engine enables for the holds tested at a release. -/
def noteHolds (r : FrameRecord) (mask : Nat) (s : State) : State :=
  if r.processed then
    eachChannel (fun ch t =>
      if inMask mask ch then note r.bank (enableField ch .mains) (note r.bank (enableField ch .perf) t)
      else t) s
  else s

/-- R64 to R67: the canceller adapts from a released record, under the holds `hp` and `hm` tested at the
start of step 3. -/
def adaptRecord (r : FrameRecord) (mask : Nat) (checked : Quad Sample) (hp hm : Quad HoldSet) (s : State) :
    State :=
  eachChannel (fun ch t =>
    let act := inMask mask ch
    let failed := failsRelease r ch
    adaptEngine r act (hm.get ch) failed (checked.get ch) ch .mains
      (adaptEngine r act (hp.get ch) failed (checked.get ch) ch .perf t)) s

/-- R123: the output value of a channel. -/
def outputValue (s : State) (r : FrameRecord) (mask : Nat) (checked : Quad Sample) (ch : Channel) : Sample :=
  if inMask mask ch then
    if makesHissStep s r true (failsRelease r ch) ch then
      BitVec.ofInt 24 (hissValue (hissSettings s r.bank ch) (s.hiss.get ch) (checked.get ch).toInt)
    else checked.get ch
  else 0

/-- R123: the hiss state of a channel after a release. -/
def hissNext (s : State) (r : FrameRecord) (mask : Nat) (checked : Quad Sample) (ch : Channel) : Hiss :=
  if inMask mask ch && makesHissStep s r true (failsRelease r ch) ch then
    hissAfter (hissSettings s r.bank ch) (s.hiss.get ch) (checked.get ch).toInt
  else s.hiss.get ch

/-- R123: the hiss reducer acts on a released record. -/
def hissRecord (r : FrameRecord) (mask : Nat) (checked : Quad Sample) (s : State) : State :=
  let after := Quad.build (hissNext s r mask checked)
  let s := eachChannel (fun ch t =>
    noteHiss r (inMask mask ch) (failsRelease r ch) (checked.get ch).toInt ch t) s
  s.setHiss after

/-- R31, R26: the oldest record, `r`, is released; `rest` is the ring after it. The holds of R64 are tested at
the start of step 3, behind the read of channel_mask: a BYPASS that this read brings about holds the engines
in the same release (DESIGN CHOICE, log entry 22). -/
def releaseRecord (r : FrameRecord) (rest : List FrameRecord) (s : State) : State :=
  let s := checkDrained (retirementEndStep (s.setRing rest))
  let mask := setting s r.bank (.stream .channelMask)
  let s := note r.bank (.stream .channelMask) s
  let checked := Quad.build (checkedValue s r)
  let s := releaseMarks r mask s
  let hp := Quad.build (fun ch => holdSet s r.bank ch .perf)
  let hm := Quad.build (fun ch => holdSet s r.bank ch .mains)
  let s := adaptRecord r mask checked hp hm (noteHolds r mask s)
  let outs := Quad.build (outputValue s r mask checked)
  let s := hissRecord r mask checked s
  (s.setOut { s.out with slot := ⟨.sample, r.marker, outs⟩ }).setLastOut outs

/-- R31: a release. A ring with no record releases nothing (no run reaches that). -/
def release (s : State) : State :=
  match s.ring with
  | [] => s
  | r :: rest => releaseRecord r rest s

/-! ### Step 3 of an arrival (R16) -/

/-- The class of a slot (R2), with the samples of a SAMPLE slot. -/
inductive SlotClass
  | bad
  | idle
  | sample (x : Quad Sample)
  deriving DecidableEq, Repr

/-- The samples a slot brings to an admission: none for a held record (R10). -/
def slotSamples : SlotClass → Option (Quad Sample)
  | .bad => none
  | .idle => none
  | .sample x => some x

/-- R17: whether a delivered REEL_START starts a stream now. -/
def markerStarts (m : Marker) (s : State) : Bool :=
  m == .reelStart && s.link.cond == .good
    && startStopOf (activeSetting s (.stream .startMode)) != .command

/-- R150: the read of start_mode made for a REEL_START in IDLE with the link GOOD, also while a start is armed
(DESIGN CHOICE, log entry 21). -/
def noteMarkerStart (m : Marker) (s : State) : State :=
  if m = .reelStart ∧ s.link.cond = .good then noteActive (.stream .startMode) s else s

/-- R20, R30: a stream starts and the starting arrival's samples are admitted. -/
def startAndAdmit (m : Marker) (stamp : BitVec 16) (x : Quad Sample) (s : State) : State :=
  admitSlot m stamp (some x) (startStreamNow m s)

/-- R16, R11, R17, R19: an arrival in IDLE. With a start armed, a REEL_START reads start_mode all the same
(DESIGN CHOICE, log entry 21). -/
def arriveIdle (m : Marker) (c : SlotClass) (s : State) : State :=
  match c with
  | .bad => s
  | .idle => s
  | .sample x =>
    let stamp := s.film.offset
    let starts := markerStarts m s || s.stream.armed
    let s := noteMarkerStart m (countSlot s)
    if starts then startAndAdmit m stamp x s
    else s.setOut { s.out with slot := ⟨.sample, m, x⟩ }

/-- R16: an arrival in PRIMING. -/
def arrivePriming (m : Marker) (c : SlotClass) (s : State) : State :=
  admitSlot m s.film.offset (slotSamples c) (countSlot s)

/-- R16: an arrival in RUNNING. -/
def arriveRunning (m : Marker) (c : SlotClass) (s : State) : State :=
  admitSlot m s.film.offset (slotSamples c) (release (countSlot s))

/-- R16, R25: an arrival in DRAINING. -/
def arriveDraining (c : SlotClass) (s : State) : State :=
  match c with
  | .bad => release s
  | .idle => release s
  | .sample _ => release (countDrained s)

/-- R5 step 3, R16: the stream controller takes the slot. The departing frame is an empty IDLE frame
unless the slot passes through or a record is released (R11, R12). -/
def streamStep (m : Marker) (c : SlotClass) (s : State) : State :=
  let s := s.setOut { s.out with slot := idleSlot }
  match s.stream.state with
  | .idle => arriveIdle m c s
  | .priming => arrivePriming m c s
  | .running => arriveRunning m c s
  | .draining => arriveDraining c s

/-- R19: with a start armed and the stream IDLE, a SAMPLE slot starts a stream; start_mode is not read (log
entry 21). -/
def armedStartStep (m : Marker) (x : Quad Sample) (s : State) : State :=
  if s.stream.armed && s.stream.state == .idle then
    let s := s.setOut { s.out with slot := idleSlot }
    startAndAdmit m s.film.offset x (countSlot s)
  else s

/-- R26: a release in DRAINING that empties the ring. -/
def drainEndStep (s : State) : State :=
  if s.stream.state == .draining && s.ring.length == 1 then release s else s

end Sys2Proof.Machine
end

