-- ==== Sys2Proof/Machine/StatusRecord.lean ====
section
/-! DEFINITION. The status record (R161, R169) and the counters as words (R162). -/

namespace Sys2Proof.Machine

/-! ### Part 0 -/

/-- R110: the oldest unread entry has outcome OPEN. -/
def oldestOpen (l : DefectLog) : Bool :=
  match unreadEntries l with
  | [] => false
  | e :: _ => e.outcome == .stillOpen

/-- R169, part 0, word 2. -/
def status0Word2 (s : State) : Nat :=
  8 * streamStateNum s.stream.state + 32 * bit s.stream.armed + 64 * linkCondNum s.link.cond
    + 128 * modeNum s.fault.mode + 512 * bit s.fault.capture.isSome + 1024 * bit s.fault.double
    + 2048 * s.tables.active.num + 4096 * pendingNum s.tables.pendingX

/-- R169, part 0, word 3. -/
def status0Word3 (s : State) : Nat :=
  bankStateNum s.tables .b0 + 4 * bankStateNum s.tables .b1 + 16 * bit s.tables.fault0
    + 32 * bit s.tables.fault1 + 64 * trackerStateNum s.tracker.state + 256 * bit s.tracker.firstSeen
    + 512 * bit s.log.overrunReported + 1024 * bit (oldestOpen s.log) + 2048 * s.cmd.replies.length
    + 8192 * engineStateNum s.store.op

/-- R169, part 0, word 4. -/
def status0Word4 (s : State) : Nat :=
  bit s.store.slots.c0.valid + 2 * bit s.store.slots.c1.valid + 4 * bit s.store.slots.c2.valid
    + 8 * bit s.store.slots.c3.valid + 16 * s.events.queue.length

/-- R169: words 2 to 26 of part 0. The phases of the four channels agree (R55); those of channel 0 are sent. -/
def statusPart0 (s : State) : List Word :=
  [wordOf (status0Word2 s), wordOf (status0Word3 s), wordOf (status0Word4 s), wordOf s.stream.lEff,
    wordOf s.occupancy, wordOf (s.bankCount .b0), wordOf (s.bankCount .b1)]
  ++ twoWords s.stream.nextSerial ++ [wordOf s.link.badCount]
  ++ twoWordsNat s.film.tag.toNat
  ++ [s.film.offset, s.film.guard, wordOf s.tracker.period, wordOf (trackerWindow s.tracker),
    s.tracker.since, wordOf s.tracker.miss.toNat, wordOf s.canc.mainsPeriod, wordOf s.canc.perfPhase.c0,
    wordOf s.canc.mainsPhase.c0, s.log.readIdx ++ s.log.writeIdx, wordOf s.log.unread]
  ++ twoWords s.counters.logLost

/-! ### Parts 1 to 4 -/

/-- R169: NONE 0, OPEN 1, LONG 2. -/
def contextNum : Option Context → Nat
  | none => 0
  | some c => if c.long then 2 else 1

/-- R76: the history depth. -/
def historyDepth : History → Nat
  | .empty => 0
  | .one _ _ => 1
  | .two _ _ _ _ => 2

/-- A field of a channel's context as a number, or 0 where there is none (R169). -/
def ofContext (d : Detector) (f : Context → Nat) : Nat := (d.ctx.map f).getD 0

/-- R169, parts 1 to 4, word 2. -/
def channelWord2 (part : Nat) (d : Detector) : Nat :=
  part + 8 * contextNum d.ctx + 32 * historyDepth d.hist + 128 * bit (historyStart d.hist).isSome
    + 256 * ofContext d (fun c => bit c.logIdx.isSome) + 512 * ofContext d (fun c => bit c.peak.isSome)
    + 1024 * ofContext d (fun c => c.bank.num)

/-- R73, R169: parts 1 to 4, word 3; the hold sets are tested against the active bank. -/
def channelWord3 (s : State) (ch : Channel) : Nat :=
  holdNum (holdSet s s.tables.active ch .perf) + 32 * holdNum (holdSet s s.tables.active ch .mains)
    + 1024 * ofContext (s.det.get ch) (fun c => causesNum c.causes)

/-- R169: words 2 to 21 of a channel's part. -/
def statusChannel (part : Nat) (ch : Channel) (s : State) : List Word :=
  let d := s.det.get ch
  let h := s.hiss.get ch
  [wordOf (channelWord2 part d), wordOf (channelWord3 s ch), wordOf (d.spliceCount + 256 * d.commandCount),
    wordOf (d.maxLenEff + 256 * ofContext d (fun c => c.cleanRun))]
  ++ twoWordsNat d.level
  ++ twoWords ((historyStart d.hist).getD 0)
  ++ twoWordsNat (ofContext d (fun c => c.first.toNat))
  ++ twoWordsNat (ofContext d (fun c => c.last.toNat))
  ++ [wordOf (ofContext d (fun c => logLength c.first c.last))]
  ++ twoWordsNat (ofContext d (fun c => c.peak.getD 0))
  ++ twoWordsInt h.low ++ twoWordsNat h.env ++ [wordOf h.gain]

/-- R161, R169: the words of a part of the status record; parts above 4 have none. -/
def statusPart (part : Nat) (s : State) : List Word :=
  match part with
  | 0 => statusPart0 s
  | 1 => statusChannel 1 .ch0 s
  | 2 => statusChannel 2 .ch1 s
  | 3 => statusChannel 3 .ch2 s
  | 4 => statusChannel 4 .ch3 s
  | _ => []

/-! ### Counters -/

/-- R162: the fourteen counters in their order. -/
def counterList (c : Counters) : List Count :=
  [c.badFrame, c.dropout, c.markerError, c.linkLoss, c.drainedInput, c.perfOutlier, c.subClip, c.detected,
   c.longDefect, c.logLost, c.strayWord, c.superseded, c.refusedMsg, c.replyOverrun]

/-- R168: the counters as 28 words. -/
def counterWords (c : Counters) : List Word := (counterList c).flatMap twoWords

end Sys2Proof.Machine
end

