-- ==== Sys2Proof/Machine/RecordCommands.lean ====
section
/-! DEFINITION. The commands of the defect log, the templates, the event queue and the fault unit. -/

namespace Sys2Proof.Machine

/-! ### READ_LOG (R119) -/

/-- R119 step 2: the number of entries returned. -/
def readLogCount (l : DefectLog) (n : Nat) : Nat := min n (min (returnable l).length Config.logReplyMax)

/-- R119 step 3: whether the reading stopped at an OPEN entry. -/
def readLogStopped (l : DefectLog) (n : Nat) : Bool :=
  let k := readLogCount l n
  decide (k < n ∧ k < Config.logReplyMax ∧ k < l.unread)

/-- R119, R168: the reply data. -/
def readLogWords (l : DefectLog) (lost : Count) (n : Nat) : List Word :=
  let k := readLogCount l n
  [wordOf (k + 16 * bit (readLogStopped l n)), wordOf (l.unread - k)] ++ twoWords lost
    ++ ((returnable l).take k).flatMap logEntryWords

/-- R119 step 4: the log after the reading. -/
def readLogAfter (l : DefectLog) (n : Nat) : DefectLog :=
  let k := readLogCount l n
  { l with readIdx := l.readIdx + BitVec.ofNat 8 k, unread := l.unread - k, overrunReported := false }

/-- READ_LOG (R119). -/
def cmdReadLog (payload : List Word) (s : State) : State :=
  match payload with
  | [w] =>
    let n := w.toNat
    if n = 0 ∨ n > 16 then reply .readLog .badParam [] s
    else (reply .readLog .ok (readLogWords s.log s.counters.logLost n) s).setLog (readLogAfter s.log n)
  | _ => reply .readLog .badParam [] s

/-! ### READ_TEMPLATE and LOAD_TEMPLATE (R70, R71) -/

/-- R70: the number of bins returned. -/
def readTemplateCount (p : TemplateParam) : Nat := min p.count (64 - p.first)

/-- R70, R168: the reply data. -/
def readTemplateWords (c : Canceller) (p : TemplateParam) : List Word :=
  let k := readTemplateCount p
  templateWord p k
    :: packBins ((List.range k).map (fun i => binValue c p.channel p.engine (BitVec.ofNat 6 (p.first + i))))

/-- R70, R61: the bins are read in order; one that fails is corrected. -/
def readTemplateBins (p : TemplateParam) (s : State) : State :=
  (List.range (readTemplateCount p)).foldl
    (fun t i => readBin p.channel p.engine (BitVec.ofNat 6 (p.first + i)) t) s

/-- READ_TEMPLATE (R70). -/
def cmdReadTemplate (payload : List Word) (s : State) : State :=
  match payload with
  | [w] =>
    let p := templateParam w
    if p.count = 0 ∨ p.count > 32 then reply .readTemplate .badParam [] s
    else readTemplateBins p (reply .readTemplate .ok (readTemplateWords s.canc p) s)
  | _ => reply .readTemplate .badParam [] s

/-- R71: bins take values in order, from bin `first` onward. -/
def loadBins (ch : Channel) (e : Engine) : Nat → List Sample → Canceller → Canceller
  | _, [], c => c
  | first, v :: vs, c => loadBins ch e (first + 1) vs (writeBin ch e (BitVec.ofNat 6 first) v c)

/-- R71: whether LOAD_TEMPLATE's parameters and its number of words are as they must be. -/
def loadTemplateSound (p : TemplateParam) (bins : List Word) : Bool :=
  decide (1 ≤ p.count ∧ p.count ≤ 32 ∧ p.first + p.count ≤ 64 ∧ bins.length = packedLength p.count)

/-- LOAD_TEMPLATE (R71). -/
def cmdLoadTemplate (payload : List Word) (s : State) : State :=
  match payload with
  | [] => reply .loadTemplate .badParam [] s
  | w :: bins =>
    let p := templateParam w
    if !loadTemplateSound p bins then reply .loadTemplate .badParam [] s
    else if s.stream.state ≠ .idle then reply .loadTemplate .wrongState [] s
    else (reply .loadTemplate .ok [] s).setCanc
      (loadBins p.channel p.engine p.first (unpackBins bins) s.canc)

/-! ### The event queue (R173, R174) -/

/-- R174: the bits of a mask that are ignored: FAULT, DOUBLE_FAULT, RESET_DONE and the bits that name no kind. -/
def ignoredMask : BitVec 32 := 0xFFFD6000#32

/-- R174: one kind of the pending set that the mask in force does not mask leaves it and is queued. -/
def unmaskKind (tag : BitVec 24) (offset : BitVec 16) (k : Fin 18) (e : Events) : Events :=
  match e.kept[k] with
  | none => e
  | some r =>
    if e.mask &&& (1#32 <<< k.val) != 0 then e else offerRecord tag offset r { e with kept := e.kept.set k none }

/-- R174: a new mask is in force, and the kinds it unmasks are queued, lowest code first. -/
def applyMask (tag : BitVec 24) (offset : BitVec 16) (mask : BitVec 32) (e : Events) : Events :=
  (List.finRange 18).foldl (fun a k => unmaskKind tag offset k a) { e with mask := mask &&& ~~~ignoredMask }

/-- SET_EVENT_MASK (R174). -/
def cmdSetEventMask (payload : List Word) (s : State) : State :=
  match payload with
  | [lo, hi] =>
    let mask := fromTwo lo hi
    let st : Status := if mask &&& ignoredMask = 0 then .ok else .okClamped
    (reply .setEventMask st [] s).setEvents (applyMask s.film.tag s.film.offset mask s.events)
  | _ => reply .setEventMask .badParam [] s

/-- R173: the pending set as a set of kinds. -/
def keptSet (e : Events) : BitVec 32 :=
  (List.finRange 18).foldl (fun a k => if e.kept[k].isSome then a ||| (1#32 <<< k.val) else a) 0

/-- READ_EVENT_SUMMARY (R173). -/
def cmdReadEventSummary (payload : List Word) (s : State) : State :=
  match payload with
  | [] =>
    (reply .readEventSummary .ok (twoWords s.events.seen ++ twoWords (keptSet s.events)) s).setEvents
      { s.events with seen := 0 }
  | _ => reply .readEventSummary .badParam [] s

/-! ### The fault unit (R179, R180) -/

/-- R179: the reply data of ACK_FAULT. -/
def ackWords (f : FaultUnit) : List Word :=
  match f.capture with
  | none => []
  | some c => captureWords c

/-- ACK_FAULT (R179). -/
def cmdAckFault (payload : List Word) (s : State) : State :=
  match payload with
  | [] => (reply .ackFault .ok (ackWords s.fault) s).setFault { s.fault with capture := none }
  | _ => reply .ackFault .badParam [] s

/-- RESUME (R180). -/
def cmdResume (payload : List Word) (s : State) : State :=
  match payload with
  | [] =>
    match s.fault.mode, s.fault.capture with
    | .normal, _ => reply .resume .ok [] s
    | .latched, _ => reply .resume .wrongState [] s
    | .bypass, some _ => reply .resume .wrongState [] s
    | .bypass, none => withMode .normal (reply .resume .ok [] s)
  | _ => reply .resume .badParam [] s

end Sys2Proof.Machine
end

