-- ==== Sys2Proof/Machine/LinkReceiver.lean ====
section
/-! DEFINITION. The link receiver: classes, delivered markers and the link condition (chapter 1). -/

namespace Sys2Proof.Machine

/-- R2: the class of a slot: `none` is a BAD slot. -/
def classOf (f : Option LinkFrame) : SlotClass :=
  match f with
  | none => .bad
  | some f => match f.ftype with
    | .idle => .idle
    | .sample => .sample f.samples

/-- R3: the marker delivered for a slot: that of a SAMPLE slot, with code 7 as NONE. -/
def deliveredMarker (f : Option LinkFrame) : Marker :=
  match f with
  | none => .none
  | some f => match f.ftype with
    | .idle => .none
    | .sample => markerOf f.markerCode

/-- R3: whether the marker-error counter increases. -/
def markerError (f : Option LinkFrame) : Bool :=
  match f with
  | none => false
  | some f => match f.ftype with
    | .idle => f.markerCode != 0
    | .sample => f.markerCode == 7

/-- R2: a BAD arrival increases the BAD-frame counter. -/
def classify (f : Option LinkFrame) (s : State) : State := if f.isNone then countBadFrame s else s

/-- R3: the marker is delivered to the film-position unit. -/
def deliver (f : Option LinkFrame) (s : State) : State :=
  deliverMarker (deliveredMarker f) (if markerError f then countMarkerError s else s)

/-- R6: the stream states in which an IDLE slot is a dropout. -/
def inReel (st : StreamState) : Bool := st == .priming || st == .running

/-- R6: whether a slot is a dropout, by the stream state before it was handled. -/
def isDropout (c : SlotClass) (before : StreamState) : Bool := c == .idle && inReel before

/-- R6: whether a slot counts as bad. -/
def countsBad (c : SlotClass) (before : StreamState) : Bool := c == .bad || isDropout c before

/-- R7, R19, R25: the count has reached 256 with the link GOOD: the link is lost. -/
def linkLostStep (s : State) : State :=
  if s.link.cond = .good ∧ s.link.badCount = Config.badLimit then
    let s := countLinkLoss (s.setLink { s.link with cond := .lost })
    let s := raise .linkLost none none s
    let s := s.setStream { s.stream with armed := false }
    if inReel s.stream.state then enterDraining s else s
  else s

/-- R8: the first slot that is neither BAD nor a dropout restores a lost link. -/
def linkRestoredStep (s : State) : State :=
  if s.link.cond = .lost then
    raise .linkRestored none none (s.setLink { s.link with cond := .good })
  else s

/-- R6 to R8: step 5 of an arrival. -/
def updateLink (c : SlotClass) (before : StreamState) (s : State) : State :=
  if countsBad c before then
    let s := if isDropout c before then countDropout s else s
    linkLostStep (s.setLink { s.link with badCount := min Config.badLimit (s.link.badCount + 1) })
  else linkRestoredStep (s.setLink { s.link with badCount := 0 })

end Sys2Proof.Machine
end

