-- ==== Sys2Proof/Machine/Store.lean ====
section
/-! DEFINITION. The profile store and the resets (chapters 11 and 12, and each chapter's reset values). -/

namespace Sys2Proof.Machine

/-! ### The store -/

/-- A profile slot. -/
def slotOf (p : ProfileStore) (i : Channel) : Slot := p.slots.get i

/-- A profile slot rewritten. -/
def withSlot (i : Channel) (x : Slot) (p : ProfileStore) : ProfileStore := { p with slots := p.slots.set i x }

/-- A slot made INVALID. -/
def invalidate (i : Channel) (p : ProfileStore) : ProfileStore :=
  withSlot i { slotOf p i with valid := false } p

/-- R183: whether a slot's stored check matches its image. -/
def checkMatches (x : Slot) : Bool := imageCheck x.image == x.check

/-- R184 step 3: the end of the erase. -/
def eraseEndStep (s : State) : State :=
  match s.store.op with
  | .erasing i img c => s.setStore { s.store with op := .programming i img c }
  | _ => s

/-- R184 step 4: programming completes. -/
def storeDoneStep (s : State) : State :=
  match s.store.op with
  | .programming i img c =>
    raise .storeDone none (some (BitVec.ofNat 32 (channelNum i)))
      (s.setStore { withSlot i ⟨true, img, c⟩ s.store with op := .ready })
  | _ => s

/-- R185: the completion of a recall. -/
def recallDoneStep (s : State) : State :=
  match s.store.op with
  | .recalling i =>
    let x := slotOf s.store i
    let b := standbyBank s.tables
    let good := checkMatches x
    let t := if good then withTableFault (withBank s.tables b (freshBank (clampImage x.image))) b false
      else s.tables
    let s := s.setTables { t with other := .standby }
    let s := s.setStore { (if good then s.store else invalidate i s.store) with op := .ready }
    raise .recallDone none (some (BitVec.ofNat 32 (channelNum i + 4 * bit (!good)))) s
  | _ => s

/-! ### Values that follow the banks (R34, R54, R93) -/

/-- R34, R153, R154: L_eff is set to the active bank's L; Pm and max_len_eff are computed. -/
def settleFromBank (s : State) : State :=
  let l := activeSetting s (.stream .lookahead)
  let s := noteActive (.stream .lookahead) s
  recomputeMaxLen (recomputeMains (s.setStream { s.stream with lEff := l }))

/-! ### Soft reset (R163, R182) -/

/-- R181: the parameter of RESET_DONE. -/
def resetParam (cause : Nat) (st : StreamState) (m : Mode) (boot : Nat) : BitVec 32 :=
  BitVec.ofNat 32 (cause + 4 * streamStateNum st + 16 * modeNum m + 64 * boot)

/-- R181: POWER 0, PIN 1. -/
def causeNum : ResetCause → Nat
  | .power => 0
  | .pin => 1

/-- R72: the phases after a reset. -/
def resetPhases (c : Canceller) : Canceller := { c with perfPhase := Quad.all 0, mainsPhase := Quad.all 0 }

/-- R94: a channel's detector after a soft reset: E and max_len_eff stand. -/
def softDetector (d : Detector) : Detector :=
  { d with hist := .empty, spliceCount := 0, commandCount := 0, ctx := none }

/-- R186: a soft reset abandons a recall; a store goes on. -/
def softStore (p : ProfileStore) : ProfileStore :=
  match p.op with
  | .recalling _ => { p with op := .ready }
  | _ => p

/-- The values each block takes at a soft reset, but for those that follow the active bank. -/
def softValues (s : State) : State where
  pending := s.pending
  power := s.power
  link := ⟨.good, 0, Quad.all 0⟩
  stream := { s.stream with state := .idle, armed := false, nextSerial := 0 }
  ring := []
  film := { s.film with guard := 0 }
  tracker := Tracker.atReset
  canc := resetPhases s.canc
  det := Quad.build (fun ch => softDetector (s.det.get ch))
  lastOut := Quad.all 0
  log := completeOpenEntries s.log
  hiss := hissAtStart
  tables := { s.tables with pendingX := none, other := .standby }
  cmd := { s.cmd with assembly := none }
  tx := s.tx
  events := s.events
  fault := ⟨none, false, .normal⟩
  store := softStore s.store
  counters := s.counters
  out := s.out
  work := s.work
  upset := s.upset

/-- R163, R182: the soft reset, ending with RESET_DONE (cause COMMAND 2). -/
def softResetNow (s : State) : State :=
  raise .resetDone none (some (resetParam 2 s.stream.state s.fault.mode 0)) (settleFromBank (softValues s))

/-! ### Hard reset (R14, R181, R187) -/

/-- R186: the operation in flight ends; a store's slot stays INVALID. -/
def endOperation (p : ProfileStore) : ProfileStore := { p with op := .ready }

/-- R14, R181: the reset input is asserted. -/
def assertReset (s : State) : State :=
  if s.power.resetInput then s
  else if s.power.supply then
    (s.setPower ⟨true, true, .pin, s.stream.state, s.fault.mode⟩).setStore (endOperation s.store)
  else s.setPower { s.power with resetInput := true }

/-- The hard-reset values of each block, with the boot recall begun. The banks' contents, L_eff, Pm and
max_len_eff stand until the boot recall ends (R153, log entry 12). -/
def hardValues (s : State) : State where
  pending := s.pending
  power := s.power
  link := ⟨.good, 0, Quad.all 0⟩
  stream := { s.stream with state := .idle, armed := false, nextSerial := 0 }
  ring := []
  film := ⟨0, 0, 0⟩
  tracker := Tracker.atReset
  canc := { resetPhases s.canc with perfTpl := Quad.all clearTemplate, mainsTpl := Quad.all clearTemplate }
  det := Quad.build (fun ch => { softDetector (s.det.get ch) with level := 0 })
  lastOut := Quad.all 0
  log := ⟨Vector.replicate 256 none, 0, 0, 0, false, false⟩
  hiss := hissAtStart
  tables := { s.tables with
    active := .b0, other := .standby, pendingX := none, fault0 := false, fault1 := false }
  cmd := ⟨none, []⟩
  tx := none
  events := ⟨[], 0, Vector.replicate 18 none, 0, 0⟩
  fault := ⟨none, false, .normal⟩
  store := { s.store with op := .booting }
  counters := Counters.zero
  out := ⟨idleSlot, s.out.departed⟩
  work := ⟨false, false⟩
  upset := s.upset

/-- R14, R187: the reset input is released: the hard reset takes effect and the boot recall begins. -/
def releaseReset (s : State) : State :=
  if s.power.resetInput then
    let s := s.setPower { s.power with resetInput := false }
    if s.power.supply then hardValues s else s
  else s

/-- R181: power-up acts as a hard reset with the cause POWER, reporting IDLE and NORMAL. With the reset
input asserted the boot recall waits for its release (log entry 11). -/
def powerUpStep (s : State) : State :=
  let s := hardValues (s.setPower ⟨true, s.power.resetInput, .power, .idle, .normal⟩)
  if s.power.resetInput then s.setStore (endOperation s.store) else s

/-- R183, R186: the supply is lost; a store in flight leaves its slot INVALID. -/
def powerDownStep (s : State) : State :=
  ((s.setPower { s.power with supply := false }).setStore (endOperation s.store)).setOut ⟨idleSlot, none⟩

/-- R187: the boot result (USED 1, ABSENT 2, FAILED 3) that slot 0 gives. -/
def bootResult (x : Slot) : Nat := if x.valid then (if checkMatches x then 1 else 3) else 2

/-- R187: the image both banks are filled with. -/
def bootImage (x : Slot) : TableSetOf (BitVec 32) :=
  if x.valid && checkMatches x then clampImage x.image else defaultImage

/-- R187: the profile store after the boot recall. -/
def bootStore (p : ProfileStore) : ProfileStore :=
  { (if bootResult (slotOf p .ch0) = 3 then invalidate .ch0 p else p) with op := .ready }

/-- R153, R181, R187: the boot recall ends. -/
def bootDoneStep (s : State) : State :=
  match s.store.op with
  | .booting =>
    let x := slotOf s.store .ch0
    let bank := freshBank (bootImage x)
    let s := s.setTables ⟨bank, bank, .b0, .standby, none, false, false⟩
    let s := settleFromBank (s.setStore (bootStore s.store))
    raise .resetDone none
      (some (resetParam (causeNum s.power.cause) s.power.priorStream s.power.priorMode (bootResult x))) s
  | _ => s

end Sys2Proof.Machine
end

