-- ==== Sys2Proof/Machine/StoreCommands.lean ====
section
/-! DEFINITION. The commands of the profile store and SOFT_RESET. -/

namespace Sys2Proof.Machine

/-- R184 steps 1 and 2: the store begins. -/
def beginStore (i : Channel) (s : State) : State :=
  let img := readImage (bankOf s.tables (standbyBank s.tables))
  s.setStore { invalidate i s.store with op := .erasing i img (imageCheck img) }

/-- STORE_PROFILE (R184). -/
def cmdStoreProfile (payload : List Word) (s : State) : State :=
  match payload with
  | [w] =>
    if w.toNat > 3 then reply .storeProfile .badParam [] s
    else if s.store.op ≠ .ready then reply .storeProfile .busy [] s
    else beginStore (channelOf w.toNat) (reply .storeProfile .accepted [] s)
  | _ => reply .storeProfile .badParam [] s

/-- R185: a recall is accepted. -/
def beginRecall (i : Channel) (s : State) : State :=
  (s.setTables { s.tables with other := .loading }).setStore { s.store with op := .recalling i }

/-- R185: the tests of RECALL_PROFILE that come after the slot's number. -/
def recallTests (i : Channel) (s : State) : State :=
  if !(slotOf s.store i).valid then reply .recallProfile .storeInvalid [] s
  else if s.store.op ≠ .ready then reply .recallProfile .busy [] s
  else if s.tables.other = .retiring ∨ s.tables.pendingX ≠ none then reply .recallProfile .busy [] s
  else beginRecall i (reply .recallProfile .accepted [] s)

/-- RECALL_PROFILE (R185). -/
def cmdRecallProfile (payload : List Word) (s : State) : State :=
  match payload with
  | [w] =>
    if w.toNat > 3 then reply .recallProfile .badParam [] s else recallTests (channelOf w.toNat) s
  | _ => reply .recallProfile .badParam [] s

/-- SOFT_RESET (R163): the reply is placed, then the soft reset takes effect. -/
def cmdSoftReset (payload : List Word) (s : State) : State :=
  match payload with
  | [] => softResetNow (reply .softReset .ok [] s)
  | _ => reply .softReset .badParam [] s

end Sys2Proof.Machine
end

