-- ==== Sys2Proof/Machine/StreamCommands.lean ====
section
/-! DEFINITION. The commands of the status record, the stream, the film position and the detector. -/

namespace Sys2Proof.Machine

/-- QUERY_STATUS (R161, R169). -/
def cmdQueryStatus (payload : List Word) (s : State) : State :=
  match payload with
  | [w] =>
    if w.toNat > 4 then reply .queryStatus .badParam [] s
    else reply .queryStatus .ok (statusPart w.toNat s) s
  | _ => reply .queryStatus .badParam [] s

/-- READ_COUNTERS (R162). -/
def cmdReadCounters (payload : List Word) (s : State) : State :=
  match payload with
  | [] => reply .readCounters .ok (counterWords s.counters) s
  | _ => reply .readCounters .badParam [] s

/-- CLEAR_COUNTERS (R162). -/
def cmdClearCounters (payload : List Word) (s : State) : State :=
  match payload with
  | [] => (reply .clearCounters .ok [] s).setCounters Counters.zero
  | _ => reply .clearCounters .badParam [] s

/-- R18: START_STREAM with the stream IDLE and the link GOOD: start_mode is read. -/
def armStart (s : State) : State :=
  if startStopOf (activeSetting s (.stream .startMode)) = .marker then
    noteActive (.stream .startMode) (reply .startStream .wrongState [] s)
  else
    noteActive (.stream .startMode)
      ((reply .startStream .ok [] s).setStream { s.stream with armed := true })

/-- START_STREAM (R18). -/
def cmdStartStream (payload : List Word) (s : State) : State :=
  match payload with
  | [] =>
    if s.link.cond = .lost ∨ s.stream.state ≠ .idle then reply .startStream .wrongState [] s
    else armStart s
  | _ => reply .startStream .badParam [] s

/-- R24: STOP_STREAM in PRIMING or RUNNING: stop_mode is read. -/
def stopReel (s : State) : State :=
  if startStopOf (activeSetting s (.stream .stopMode)) = .marker then
    noteActive (.stream .stopMode) (reply .stopStream .wrongState [] s)
  else enterDraining (noteActive (.stream .stopMode) (reply .stopStream .ok [] s))

/-- STOP_STREAM (R24). -/
def cmdStopStream (payload : List Word) (s : State) : State :=
  match payload with
  | [] =>
    match s.stream.state with
    | .idle => (reply .stopStream .ok [] s).setStream { s.stream with armed := false }
    | .priming => stopReel s
    | .running => stopReel s
    | .draining => reply .stopStream .ok [] s
  | _ => reply .stopStream .badParam [] s

/-- SET_FRAME_TAG (R39). -/
def cmdSetFrameTag (payload : List Word) (s : State) : State :=
  match payload with
  | [lo, hi] =>
    if (fromTwo lo hi).toNat > 16777215 then reply .setFrameTag .badParam [] s
    else (reply .setFrameTag .ok [] s).setFilm
      { s.film with tag := (fromTwo lo hi).extractLsb' 0 24, offset := 0 }
  | _ => reply .setFrameTag .badParam [] s

/-- R82: the command count of each channel of a set takes a count. -/
def loadCommandCounts (mask count : Nat) (s : State) : State :=
  s.setDet (Quad.build (fun ch =>
    if inMask mask ch then { s.det.get ch with commandCount := count } else s.det.get ch))

/-- R82, R168: FORCE_DEFECT's channel set and count. -/
def forceDefectOf (w : Word) (s : State) : State :=
  let mask := wordBits w 0 4
  let count := wordBits w 8 7
  if mask = 0 ∨ count = 0 ∨ count > 64 then reply .forceDefect .badParam [] s
  else if s.stream.state = .idle ∨ s.stream.state = .draining then reply .forceDefect .wrongState [] s
  else loadCommandCounts mask count (reply .forceDefect .ok [] s)

/-- FORCE_DEFECT (R82). -/
def cmdForceDefect (payload : List Word) (s : State) : State :=
  match payload with
  | [w] => forceDefectOf w s
  | _ => reply .forceDefect .badParam [] s

end Sys2Proof.Machine
end

