-- ==== Sys2Proof/Machine/TableCommands.lean ====
section
/-! DEFINITION. The commands of the table banks (chapter 9). -/

namespace Sys2Proof.Machine

/-- The ranges and defaults of a table's record, in field order. -/
def recordSpecs : TableCode → List FieldSpec
  | .stream => streamSpec.toList
  | .channel => channelSpec.toList
  | .gain => gainSpec.toList

/-- The stored fields of a bank's record, in field order. -/
def recordFields (t : TableSetOf Field) (table : TableCode) (ix : Channel) : List Field :=
  match table with
  | .stream => t.stream.toList
  | .channel => (t.channel.get ix).toList
  | .gain => (t.gain.get ix).toList

/-- R142: a record of a bank with every field written afresh from a list of values in field order. -/
def writeRecord (table : TableCode) (ix : Channel) (vs : List (BitVec 32)) (t : TableSetOf Field) :
    TableSetOf Field :=
  match table with
  | .stream => { t with stream := Vector.ofFn (fun i => freshField (vs.getD i.val 0)) }
  | .channel => { t with channel := t.channel.set ix (Vector.ofFn (fun i => freshField (vs.getD i.val 0))) }
  | .gain => { t with gain := t.gain.set ix (Vector.ofFn (fun i => freshField (vs.getD i.val 0))) }

/-- R143: the values of a record, each clamped to its field's range. -/
def clampRecord (table : TableCode) (vs : List (BitVec 32)) : List (BitVec 32) :=
  List.zipWith clampField (recordSpecs table) vs

/-- A number, counted from 1, of the first place where a list of Booleans is true, or 0. -/
def firstNumber (bs : List Bool) : Nat := if bs.any id then bs.findIdx id + 1 else 0

/-- R143: the number of the first clamped field, or 0. -/
def firstClamped (table : TableCode) (vs : List (BitVec 32)) : Nat :=
  firstNumber (List.zipWith (fun sp v => clampField sp v != v) (recordSpecs table) vs)

/-- R142: a record of the standby bank is written, and the bank's table-fault flag becomes no. -/
def writeStandby (table : TableCode) (ix : Channel) (vs : List (BitVec 32)) (t : Tables) : Tables :=
  let b := standbyBank t
  withTableFault (withBank t b (writeRecord table ix vs (bankOf t b))) b false

/-- WRITE_TABLE (R142, R143). -/
def cmdWriteTable (payload : List Word) (s : State) : State :=
  match payload with
  | [] => reply .writeTable .badParam [] s
  | head :: rest =>
    match tableParam head with
    | none => reply .writeTable .badParam [] s
    | some (table, ix) =>
      if rest.length ≠ 2 * fieldCount table then reply .writeTable .badParam [] s
      else if s.tables.other ≠ .standby then reply .writeTable .busy [] s
      else
        let vs := valuesOf rest
        let b := standbyBank s.tables
        let first := firstClamped table vs
        let st : Status := if first = 0 then .ok else .okClamped
        (placeReply (CmdCode.code .writeTable) [statusWord st first, wordOf b.num] s).setTables
          (writeStandby table ix (clampRecord table vs) s.tables)

/-- R144, R168: the reply data of READ_TABLE. -/
def tableWords (s : State) (b : BankId) (table : TableCode) (ix : Channel) : List Word :=
  let fs := recordFields (bankOf s.tables b) table ix
  wordOf (b.num + 2 * bankStateNum s.tables b + 8 * tableNum table + 32 * channelNum ix)
    :: wordOf (firstNumber (fs.map (fun f => !fieldOk f)))
    :: (List.zipWith fieldRead (recordSpecs table) fs).flatMap twoWordsNat

/-- The bank a word names (R168). -/
def bankParam (w : Word) : Option BankId := if w = 0 then some .b0 else if w = 1 then some .b1 else none

/-- READ_TABLE (R144). -/
def cmdReadTable (payload : List Word) (s : State) : State :=
  match payload with
  | [w, p] =>
    match bankParam w, tableParam p with
    | some b, some (table, ix) => reply .readTable .ok (tableWords s b table ix) s
    | _, _ => reply .readTable .badParam [] s
  | _ => reply .readTable .badParam [] s

/-- R145: whether SWAP_BANKS is refused with BUSY. -/
def swapBusy (s : State) : Bool := s.tables.pendingX.isSome || s.tables.other != .standby

/-- R145: SWAP_BANKS with a trigger that waits. -/
def swapLater (t : Trigger) (s : State) : State :=
  if swapBusy s then reply .swapBanks .busy [] s
  else (reply .swapBanks .ok [] s).setTables { s.tables with pendingX := some t }

/-- R145: SWAP_BANKS with trigger NOW. -/
def swapNow (s : State) : State :=
  if swapBusy s then reply .swapBanks .busy [] s else exchangeBanks (reply .swapBanks .ok [] s)

/-- SWAP_BANKS (R145; triggers by R168: NOW 0, NEXT_FRAME 1, NEXT_SPLICE 2, STREAM_START 3). -/
def cmdSwapBanks (payload : List Word) (s : State) : State :=
  match payload with
  | [w] =>
    if w = 0 then swapNow s
    else if w = 1 then swapLater .nextFrame s
    else if w = 2 then swapLater .nextSplice s
    else if w = 3 then swapLater .streamStart s
    else reply .swapBanks .badParam [] s
  | _ => reply .swapBanks .badParam [] s

/-- CANCEL_SWAP (R148). -/
def cmdCancelSwap (payload : List Word) (s : State) : State :=
  match payload with
  | [] => (reply .cancelSwap .ok [] s).setTables { s.tables with pendingX := none }
  | _ => reply .cancelSwap .badParam [] s

end Sys2Proof.Machine
end

