-- ==== Sys2Proof/Machine/CommandUnit.lean ====
section
/-! DEFINITION. The command unit: assembly, the tests at a message's close, and execution (R157 to R159). -/

namespace Sys2Proof.Machine

/-- R159: a command is executed. -/
def runCommand (c : CmdCode) (payload : List Word) (s : State) : State :=
  match c with
  | .queryStatus => cmdQueryStatus payload s
  | .readCounters => cmdReadCounters payload s
  | .clearCounters => cmdClearCounters payload s
  | .writeTable => cmdWriteTable payload s
  | .readTable => cmdReadTable payload s
  | .swapBanks => cmdSwapBanks payload s
  | .cancelSwap => cmdCancelSwap payload s
  | .startStream => cmdStartStream payload s
  | .stopStream => cmdStopStream payload s
  | .resume => cmdResume payload s
  | .setFrameTag => cmdSetFrameTag payload s
  | .forceDefect => cmdForceDefect payload s
  | .readLog => cmdReadLog payload s
  | .readTemplate => cmdReadTemplate payload s
  | .loadTemplate => cmdLoadTemplate payload s
  | .setEventMask => cmdSetEventMask payload s
  | .readEventSummary => cmdReadEventSummary payload s
  | .ackFault => cmdAckFault payload s
  | .storeProfile => cmdStoreProfile payload s
  | .recallProfile => cmdRecallProfile payload s
  | .softReset => cmdSoftReset payload s

/-- The message in assembly is discarded, and the state is WAIT_HEAD (R158). -/
def endAssembly (s : State) : State := s.setCmd { s.cmd with assembly := none }

/-- R158: a closed message, whose assembly has ended, is discarded, refused or executed. `sumOk` says
that its CHECK data is the running sum. -/
def closeMessage (a : Assembly) (sumOk : Bool) (s : State) : State :=
  if s.cmd.replies.length ≥ Config.replyMax then countReplyOverrun s
  else if a.corrupt then refuse a.code .linkError (countRefused s)
  else if a.length.toNat > Config.bodyMax ∨ a.count ≠ a.length.toNat then
    refuse a.code .badLength (countRefused s)
  else if !sumOk then refuse a.code .badCheck (countRefused s)
  else match cmdOf a.code with
    | none => refuse a.code .badCommand s
    | some c => if s.booting then refuse a.code .busy s else runCommand c a.words s

/-- R157: a HEAD begins a message. -/
def beginAssembly (w : Word) : Assembly := ⟨headCode w, headLength w, 0, [], w, false⟩

/-- R157: a BODY word reaches a message: it is stored up to the sixty-third, and the count stops at 64. -/
def addBody (w : Word) (a : Assembly) : Assembly :=
  { a with
    sum := a.sum + w
    count := min 64 (a.count + 1)
    words := if a.count < Config.bodyMax then a.words ++ [w] else a.words }

/-- R157: a HEAD is taken. -/
def takeHead (w : Word) (s : State) : State :=
  let s := if s.cmd.assembly.isSome then countSuperseded s else s
  s.setCmd { s.cmd with assembly := some (beginAssembly w) }

/-- R157: a BODY word is taken. -/
def takeBody (w : Word) (s : State) : State :=
  match s.cmd.assembly with
  | none => countStray s
  | some a => s.setCmd { s.cmd with assembly := some (addBody w a) }

/-- R157, R158: a CHECK word is taken. -/
def takeCheck (w : Word) (s : State) : State :=
  match s.cmd.assembly with
  | none => countStray s
  | some a => closeMessage a (a.sum == w) (endAssembly s)

/-- R157: the BAD indication is taken. -/
def takeBad (s : State) : State :=
  match s.cmd.assembly with
  | none => s
  | some a => s.setCmd { s.cmd with assembly := some { a with corrupt := true } }

/-- R157: the command unit takes a control word, or the BAD indication of a slot that gave none. -/
def takeControl (f : Option LinkFrame) (s : State) : State :=
  match f with
  | none => takeBad s
  | some f => match f.kind with
    | .none => s
    | .head => takeHead f.data s
    | .body => takeBody f.data s
    | .check => takeCheck f.data s

/-- R157: the message, gathered whole and sound, of a command and its payload. -/
def soundMessage (c : CmdCode) (payload : List Word) : Assembly :=
  ⟨c.code, BitVec.ofNat 8 payload.length, payload.length, payload, 0, false⟩

/-- A command of the table: a sound message with this payload is closed by its CHECK word (R158, R159).
While the part has no supply or is held in reset, no message reaches it (R14). Log entry 3. -/
def commandStep (c : CmdCode) (payload : List Word) (s : State) : State :=
  if s.live then closeMessage (soundMessage c payload) true (endAssembly s) else s

end Sys2Proof.Machine
end

