-- ==== Sys2Proof/Machine/Egress.lean ====
section
/-! DEFINITION. The egress arbiter and the link transmitter (R12, R13, R164, R165). -/

namespace Sys2Proof.Machine

/-- R167: a downstream HEAD: code, class (REPLY 0, EVENT 1) and body length. -/
def downHead (code : BitVec 8) (event : Bool) (len : Nat) : Word :=
  code ++ (BitVec.ofNat 8 (64 * bit event + len % 64))

/-- R156: the control words of a downstream message: HEAD, BODY words and CHECK (R165). -/
def messageWords (code : BitVec 8) (event : Bool) (body : List Word) : List (CtlKind × Word) :=
  let h := downHead code event body.length
  (.head, h) :: body.map (fun w => (CtlKind.body, w)) ++ [(.check, body.foldl (· + ·) h)]

/-- The words of a reply. -/
def replyMessage (r : Reply) : List (CtlKind × Word) := messageWords r.code false r.body

/-- The words of an event (R170, R171). -/
def eventMessage (r : EventRecord) : List (CtlKind × Word) :=
  messageWords (BitVec.ofNat 8 (kindNum r.kind).val) true (eventWords r)

/-- The words of the message in transmission: the oldest reply, or the oldest event. -/
def txWords (s : State) (t : Transmission) : List (CtlKind × Word) :=
  if t.isReply then (s.cmd.replies.head?.map replyMessage).getD []
  else (s.events.queue.head?.map eventMessage).getD []

/-- R164: with no message in transmission the oldest waiting reply is begun, and else the oldest event. -/
def chooseMessage (s : State) : State :=
  match s.tx with
  | some _ => s
  | none =>
    if !s.cmd.replies.isEmpty then s.setTx (some ⟨true, 0⟩)
    else if !s.events.queue.isEmpty then s.setTx (some ⟨false, 0⟩)
    else s

/-- R164: a word of kind NONE, with data 0. -/
def noWord : CtlKind × Word := (.none, 0)

/-- R164: the word that the message in transmission gives next. -/
def nextWord (s : State) : CtlKind × Word :=
  match s.tx with
  | none => noWord
  | some t => (txWords s t).getD t.sent noWord

/-- R164: one more word of the message in transmission has been sent. -/
def countSent (s : State) : State :=
  match s.tx with
  | none => s
  | some t => s.setTx (some { t with sent := t.sent + 1 })

/-- R160, R165: the message sent whole leaves the reply buffer or the event queue. -/
def removeSent (t : Transmission) (s : State) : State :=
  if t.isReply then s.setCmd { s.cmd with replies := s.cmd.replies.tail }
  else s.setEvents { s.events with queue := s.events.queue.tail }

/-- R165: the CHECK word of the message in transmission has been sent: the message is removed and the
transmission becomes none. -/
def messageSentStep (s : State) : State :=
  match s.tx with
  | none => s
  | some t => if t.sent ≥ (txWords s t).length then (removeSent t s).setTx none else s

/-- R12, R13: the departing frame of a slot's outcome and a control word. -/
def departingFrame (o : SlotOut) (w : CtlKind × Word) : LinkFrame :=
  ⟨o.ftype, o.marker.code, o.samples, w.1, w.2⟩

/-- R13, R164: the frame departs. -/
def depart (w : CtlKind × Word) (s : State) : State :=
  s.setOut { s.out with departed := some (formFrame (departingFrame s.out.slot w)) }

/-- R164, R165: after step 5 of an arrival the control word is chosen, the frame departs, and a message
sent whole is removed. -/
def egressStep (s : State) : State :=
  let s := chooseMessage s
  messageSentStep (countSent (depart (nextWord s) s))

end Sys2Proof.Machine
end

