-- ==== Sys2Proof/Machine/Arrival.lean ====
section
/-! DEFINITION. One arrival: the link receiver's five steps and the departing frame (R5, R14). -/

namespace Sys2Proof.Machine

/-- R14: a slot that arrives while the reset input is held is answered with an empty IDLE frame. -/
def heldArrival (s : State) : State := s.setOut ⟨idleSlot, some (formFrame (departingFrame idleSlot noWord))⟩

/-- R11, R14: the outcome of a slot that passes through while a boot recall is being read. -/
def passedSlot (f : Option LinkFrame) : SlotOut :=
  match classOf f with
  | .bad => idleSlot
  | .idle => idleSlot
  | .sample x => ⟨.sample, deliveredMarker f, x⟩

/-- R14: an arrival while a boot recall is being read. -/
def bootArrival (f : Option LinkFrame) (s : State) : State :=
  let s := classify f s
  let s := s.setOut { s.out with slot := passedSlot f }
  egressStep (takeControl f s)

/-- R5: an arrival: classification, the marker, the stream controller, the command unit and the link
condition, and then the departing frame. A dropout is told by the stream state before the slot (R6). -/
def servedArrival (f : Option LinkFrame) (s : State) : State :=
  let before := s.stream.state
  let s := deliver f (classify f s)
  let s := streamStep (deliveredMarker f) (classOf f) s
  let s := takeControl f s
  egressStep (updateLink (classOf f) before s)

/-- ARRIVAL: one upstream slot. With no supply nothing departs (log entry 11). -/
def arrivalStep (bits : BitVec 127) (s : State) : State :=
  if !s.power.supply then s.setOut ⟨idleSlot, none⟩
  else if s.power.resetInput then heldArrival s
  else if s.booting then bootArrival (parseFrame bits) s
  else servedArrival (parseFrame bits) s

end Sys2Proof.Machine
end

