-- ==== Sys2Proof/Machine/LinkRows.lean ====
section
/-! DEFINITION. The meanings of ARRIVAL and of the rows that come about inside an arrival. Each of the
latter makes the consequence of its trigger where the trigger is met and changes nothing elsewhere (log
entry 2). -/

namespace Sys2Proof.Machine

/-- The outcome of a step of the part. -/
abbrev Result := Host.Outcome State Fault Refusal

/-- A step that acts only in some states and changes nothing in the others. -/
def actWhen (p : Bool) (f : State → State) (s : State) : Result := .next (if p then f s else s)

/-- ARRIVAL (R5). -/
def execArrival (bits : BitVec 127) (s : State) : Result := .next (arrivalStep bits s)

/-- ARMED_START_TAKEN (R19). -/
def execArmedStartTaken (marker : Marker) (samples : Quad Sample) (s : State) : Result :=
  actWhen s.serving (armedStartStep marker samples) s

/-- PERF_MISS (R48). -/
def execPerfMiss (s : State) : Result := actWhen s.serving perfMissStep s

/-- NORMAL_CLOSE (R89). -/
def execNormalClose (ch : Channel) (s : State) : Result := actWhen s.serving (normalCloseStep ch) s

/-- RETIREMENT_END (R149). -/
def execRetirementEnd (s : State) : Result := actWhen s.serving retirementEndStep s

/-- DRAIN_END (R26). -/
def execDrainEnd (s : State) : Result := actWhen s.serving drainEndStep s

/-- LINK_LOST (R7). -/
def execLinkLost (s : State) : Result := actWhen s.serving linkLostStep s

/-- PENDING_EXCHANGE (R147). -/
def execPendingExchange (trigger : Trigger) (s : State) : Result := actWhen s.serving (exchangeAt trigger) s

/-- MESSAGE_SENT (R165). -/
def execMessageSent (s : State) : Result := actWhen s.live messageSentStep s

end Sys2Proof.Machine
end

