-- ==== Sys2Proof/Machine/CommandRows.lean ====
section
/-! DEFINITION. The meanings of the twenty-one commands of the link's messages (R159, R168). -/

namespace Sys2Proof.Machine

/-- QUERY_STATUS (R161). -/
def execQueryStatus (payload : List Word) (s : State) : Result := .next (commandStep .queryStatus payload s)

/-- READ_COUNTERS (R162). -/
def execReadCounters (payload : List Word) (s : State) : Result := .next (commandStep .readCounters payload s)

/-- CLEAR_COUNTERS (R162). -/
def execClearCounters (payload : List Word) (s : State) : Result := .next (commandStep .clearCounters payload s)

/-- WRITE_TABLE (R142). -/
def execWriteTable (payload : List Word) (s : State) : Result := .next (commandStep .writeTable payload s)

/-- READ_TABLE (R144). -/
def execReadTable (payload : List Word) (s : State) : Result := .next (commandStep .readTable payload s)

/-- SWAP_BANKS (R145). -/
def execSwapBanks (payload : List Word) (s : State) : Result := .next (commandStep .swapBanks payload s)

/-- CANCEL_SWAP (R148). -/
def execCancelSwap (payload : List Word) (s : State) : Result := .next (commandStep .cancelSwap payload s)

/-- START_STREAM (R18). -/
def execStartStream (payload : List Word) (s : State) : Result := .next (commandStep .startStream payload s)

/-- STOP_STREAM (R24). -/
def execStopStream (payload : List Word) (s : State) : Result := .next (commandStep .stopStream payload s)

/-- RESUME (R180). -/
def execResume (payload : List Word) (s : State) : Result := .next (commandStep .resume payload s)

/-- SET_FRAME_TAG (R39). -/
def execSetFrameTag (payload : List Word) (s : State) : Result := .next (commandStep .setFrameTag payload s)

/-- FORCE_DEFECT (R82). -/
def execForceDefect (payload : List Word) (s : State) : Result := .next (commandStep .forceDefect payload s)

/-- READ_LOG (R119). -/
def execReadLog (payload : List Word) (s : State) : Result := .next (commandStep .readLog payload s)

/-- READ_TEMPLATE (R70). -/
def execReadTemplate (payload : List Word) (s : State) : Result := .next (commandStep .readTemplate payload s)

/-- LOAD_TEMPLATE (R71). -/
def execLoadTemplate (payload : List Word) (s : State) : Result := .next (commandStep .loadTemplate payload s)

/-- SET_EVENT_MASK (R174). -/
def execSetEventMask (payload : List Word) (s : State) : Result := .next (commandStep .setEventMask payload s)

/-- READ_EVENT_SUMMARY (R173). -/
def execReadEventSummary (payload : List Word) (s : State) : Result := .next (commandStep .readEventSummary payload s)

/-- ACK_FAULT (R179). -/
def execAckFault (payload : List Word) (s : State) : Result := .next (commandStep .ackFault payload s)

/-- STORE_PROFILE (R184). -/
def execStoreProfile (payload : List Word) (s : State) : Result := .next (commandStep .storeProfile payload s)

/-- RECALL_PROFILE (R185). -/
def execRecallProfile (payload : List Word) (s : State) : Result := .next (commandStep .recallProfile payload s)

/-- SOFT_RESET (R163). -/
def execSoftReset (payload : List Word) (s : State) : Result := .next (commandStep .softReset payload s)

end Sys2Proof.Machine
end

