-- ==== Sys2Proof/Machine/ResetRows.lean ====
section
/-! DEFINITION. The meanings of the reset input, the supply and the profile store's completions. -/

namespace Sys2Proof.Machine

/-- HARD_RESET (R14, R181): the reset input is asserted. -/
def execHardReset (s : State) : Result := .next (assertReset s)

/-- POWER_UP (R181, R187). -/
def execPowerUp (s : State) : Result := actWhen (!s.power.supply) powerUpStep s

/-- HARD_RESET_RELEASE (R14, R187). -/
def execHardResetRelease (s : State) : Result := .next (releaseReset s)

/-- BOOT_RECALL_DONE (R153, R181, R187). -/
def execBootRecallDone (s : State) : Result := actWhen s.live bootDoneStep s

/-- STORE_ERASE_END (R184). -/
def execStoreEraseEnd (s : State) : Result := actWhen s.live eraseEndStep s

/-- STORE_DONE (R184). -/
def execStoreDone (s : State) : Result := actWhen s.live storeDoneStep s

/-- RECALL_DONE (R185). -/
def execRecallDone (s : State) : Result := actWhen s.live recallDoneStep s

/-- POWER_DOWN (R183, R186). -/
def execPowerDown (s : State) : Result := .next (powerDownStep s)

end Sys2Proof.Machine
end

