-- ==== Sys2Proof/Machine/Dispatch.lean ====
section
/-! DEFINITION. The meaning of each command: one arm for each constructor of Instr. -/

namespace Sys2Proof.Machine

/-- The effect of one command on everything but the queue. -/
def exec (i : Instr) (s : State) : Host.Outcome State Fault Refusal :=
  match i with
  | .arrival bits => Sys2Proof.Machine.execArrival bits s
  | .armedStartTaken marker samples => Sys2Proof.Machine.execArmedStartTaken marker samples s
  | .perfMiss => Sys2Proof.Machine.execPerfMiss s
  | .normalClose ch => Sys2Proof.Machine.execNormalClose ch s
  | .retirementEnd => Sys2Proof.Machine.execRetirementEnd s
  | .drainEnd => Sys2Proof.Machine.execDrainEnd s
  | .linkLost => Sys2Proof.Machine.execLinkLost s
  | .pendingExchange trigger => Sys2Proof.Machine.execPendingExchange trigger s
  | .messageSent => Sys2Proof.Machine.execMessageSent s
  | .queryStatus payload => Sys2Proof.Machine.execQueryStatus payload s
  | .readCounters payload => Sys2Proof.Machine.execReadCounters payload s
  | .clearCounters payload => Sys2Proof.Machine.execClearCounters payload s
  | .writeTable payload => Sys2Proof.Machine.execWriteTable payload s
  | .readTable payload => Sys2Proof.Machine.execReadTable payload s
  | .swapBanks payload => Sys2Proof.Machine.execSwapBanks payload s
  | .cancelSwap payload => Sys2Proof.Machine.execCancelSwap payload s
  | .startStream payload => Sys2Proof.Machine.execStartStream payload s
  | .stopStream payload => Sys2Proof.Machine.execStopStream payload s
  | .resume payload => Sys2Proof.Machine.execResume payload s
  | .setFrameTag payload => Sys2Proof.Machine.execSetFrameTag payload s
  | .forceDefect payload => Sys2Proof.Machine.execForceDefect payload s
  | .readLog payload => Sys2Proof.Machine.execReadLog payload s
  | .readTemplate payload => Sys2Proof.Machine.execReadTemplate payload s
  | .loadTemplate payload => Sys2Proof.Machine.execLoadTemplate payload s
  | .setEventMask payload => Sys2Proof.Machine.execSetEventMask payload s
  | .readEventSummary payload => Sys2Proof.Machine.execReadEventSummary payload s
  | .ackFault payload => Sys2Proof.Machine.execAckFault payload s
  | .storeProfile payload => Sys2Proof.Machine.execStoreProfile payload s
  | .recallProfile payload => Sys2Proof.Machine.execRecallProfile payload s
  | .softReset payload => Sys2Proof.Machine.execSoftReset payload s
  | .hardReset => Sys2Proof.Machine.execHardReset s
  | .powerUp => Sys2Proof.Machine.execPowerUp s
  | .hardResetRelease => Sys2Proof.Machine.execHardResetRelease s
  | .bootRecallDone => Sys2Proof.Machine.execBootRecallDone s
  | .storeEraseEnd => Sys2Proof.Machine.execStoreEraseEnd s
  | .storeDone => Sys2Proof.Machine.execStoreDone s
  | .recallDone => Sys2Proof.Machine.execRecallDone s
  | .powerDown => Sys2Proof.Machine.execPowerDown s

end Sys2Proof.Machine
end

