-- ==== Sys2Proof/Machine/Step.lean ====
section
/-! DEFINITION. One step of the part: the oldest waiting command is carried out. -/

namespace Sys2Proof.Machine

/-- The command at the front of the queue is taken out and carried out on the rest. With nothing waiting
the part idles (log entry 15). -/
def step (s : State) : Host.Outcome State Fault Refusal :=
  match s.pending with
  | [] => .next s
  | i :: rest => exec i (s.setPending rest)

/-- The state with the command that a word spells put at the front of the queue; `s` itself where the
word spells none, as every word does, since no row of the table has bits. -/
def State.withFetchWord (s : State) (nbits w : Nat) : State :=
  match decodeTableWord nbits w with
  | none => s
  | some i => s.setPending (i :: s.pending)

end Sys2Proof.Machine
end

