-- ==== Sys2Proof/Safety.lean ====
section
/-! DEFINITION. What a safe state of the part is: the invariants of the chapters, the states in which a
command is executed, and what it means that a unit of the state is kept. -/

namespace Sys2Proof.Safety

open Sys2Proof.Machine

/-! ### States in which a command is executed -/

/-- R158: a sound message that closes now is executed: the part serves, and the reply buffer has room. -/
def Ready (s : State) : Prop := s.serving = true ∧ s.cmd.replies.length < 2

/-- R158, R159: the command unit after a reply: WAIT_HEAD, with the reply at the newest end. -/
def answered (s : State) (code : BitVec 8) (body : List Word) : CommandUnit :=
  ⟨none, s.cmd.replies ++ [⟨code, body⟩]⟩

/-- The state after a command whose one effect is its reply. -/
def afterReply (s : State) (code : BitVec 8) (body : List Word) : State := s.setCmd (answered s code body)

/-- R136: every stored field of both banks passes its parity check. -/
def SoundTables (s : State) : Prop := ∀ (b : BankId) (r : FieldRef), fieldOk (storedField s b r) = true

/-- R28, R55: every ring value and every template bin passes its parity check. -/
def SoundCells (s : State) : Prop :=
  (∀ r ∈ s.ring, ∀ ch : Channel, cellOk (r.entries.get ch).cell = true) ∧
  (∀ (ch : Channel) (e : Engine) (b : BitVec 6), cellOk (binCell s.canc ch e b) = true)

/-- R75: no value of the next admission is upset before the detector reads it (log entry 16). -/
def NoUpset (s : State) : Prop := s.upset = Quad.all false

/-! ### Invariants -/

/-- R160, R172: at most two replies and at most 32 event records are held. -/
def QueuesBounded (s : State) : Prop := s.cmd.replies.length ≤ 2 ∧ s.events.queue.length ≤ 32

/-- R172, R174: FAULT, DOUBLE_FAULT, RESET_DONE and the bits that name no kind are never masked, and the
pending set holds only masked kinds, each with a record of its own kind. -/
def MaskKept (s : State) : Prop :=
  s.events.mask &&& 0xFFFD6000#32 = 0 ∧
  ∀ (k : Fin 18) (r : EventRecord), s.events.kept[k] = some r →
    kindNum r.kind = k ∧ s.events.mask.getLsbD k.val = true

/-- R45, R46, R53, R55: P and Pm lie within 16 to 16,383; the four PERF phases are one number below P, and
the four MAINS phases are one number below Pm. -/
def PeriodsKept (s : State) : Prop :=
  (16 ≤ s.tracker.period ∧ s.tracker.period ≤ 16383) ∧
  (16 ≤ s.canc.mainsPeriod ∧ s.canc.mainsPeriod ≤ 16383) ∧
  (∃ p, p < s.tracker.period ∧ s.canc.perfPhase = Quad.all p) ∧
  (∃ m, m < s.canc.mainsPeriod ∧ s.canc.mainsPhase = Quad.all m)

/-- R137 to R139, R143: every field of both banks that passes its check holds a value within its range. -/
def TablesInRange (s : State) : Prop :=
  ∀ (b : BankId) (r : FieldRef), fieldOk (storedField s b r) = true →
    (fieldSpec r).lo ≤ (storedField s b r).val.toNat ∧ (storedField s b r).val.toNat ≤ (fieldSpec r).hi

/-- R29, R22, R25: what the ring holds in each stream state. -/
def ringFits : StreamState → Nat → Nat → Prop
  | .idle, n, _ => n = 0
  | .priming, n, l => 1 ≤ n ∧ n < l
  | .running, n, l => n = l
  | .draining, n, l => 1 ≤ n ∧ n ≤ l

/-- R21, R29, R19, R187: L_eff lies within 64 to 1,024; the ring holds what the stream state lets it hold;
a start is armed, and a boot recall runs, only in IDLE; the tables are in range. -/
def StreamKept (s : State) : Prop :=
  (64 ≤ s.stream.lEff ∧ s.stream.lEff ≤ 1024) ∧
  ringFits s.stream.state s.ring.length s.stream.lEff ∧
  (s.stream.armed = true → s.stream.state = .idle) ∧
  (s.booting = true → s.stream.state = .idle) ∧
  TablesInRange s

/-- R29, R32: the serials of the ring run upward without a gap and end just below the next serial. -/
def SerialsKept (s : State) : Prop :=
  s.ring.map (fun r => r.serial) =
    (List.range s.ring.length).map
      (fun i => s.stream.nextSerial - BitVec.ofNat 32 s.ring.length + BitVec.ofNat 32 i)

/-- R140, R141, R185: a bank is RETIRING exactly when it is not active and tags a record of the ring; an
exchange is pending only beside a STANDBY bank; a recall runs only into a LOADING bank. -/
def BanksKept (s : State) : Prop :=
  (s.tables.other = .retiring ↔ 0 < s.bankCount s.tables.active.opposite) ∧
  (s.tables.pendingX ≠ none → s.tables.other = .standby) ∧
  (∀ i, s.store.op = .recalling i → s.tables.other = .loading)

/-- R110: the log holds at most 256 unread entries; the write index stands just above the newest of them;
each of their slots has an entry. -/
def LogSound (l : DefectLog) : Prop :=
  l.unread ≤ 256 ∧ l.writeIdx = l.readIdx + BitVec.ofNat 8 l.unread ∧
  ∀ k, k < l.unread → (logSlot l (l.readIdx + BitVec.ofNat 8 k)).isSome = true

/-- R110: the log is sound. -/
def LogKept (s : State) : Prop := LogSound s.log

/-- R177, R178: the double-fault indication stands exactly while the bypass is latched. -/
def FaultKept (s : State) : Prop := s.fault.double = true ↔ s.fault.mode = .latched

/-- R79, R125 to R128: E, Lb, V and g of every channel lie within their ranges; the tables are in range. -/
def LevelsKept (s : State) : Prop :=
  (∀ ch : Channel, (s.det.get ch).level ≤ 33554430) ∧
  (∀ ch : Channel, -8388608 ≤ (s.hiss.get ch).low ∧ (s.hiss.get ch).low ≤ 8388607) ∧
  (∀ ch : Channel, (s.hiss.get ch).env ≤ 16777215 ∧ (s.hiss.get ch).gain ≤ 4096) ∧
  TablesInRange s

/-- R157: at most 63 words are stored, and the body count stops at 64. -/
def AssemblyKept (s : State) : Prop :=
  ∀ a, s.cmd.assembly = some a → a.count ≤ 64 ∧ a.words.length = min 63 a.count

/-! ### What is kept -/

/-- A step of any command from a state with `Inv` that answers a next state answers one with `Inv`. -/
def StepKeeps (Inv : State → Prop) : Prop :=
  ∀ s t : State, Inv s → step s = .next t → Inv t

/-- R29: what the stages that work on a record in the ring never change of it, with its bins. -/
def recordKey (r : FrameRecord) :
    Serial × Marker × BitVec 24 × BitVec 16 × BankId × Bool × Quad (BitVec 6 × BitVec 6) :=
  (r.serial, r.marker, r.tag, r.offset, r.bank, r.processed,
    Quad.build (fun ch => ((r.entries.get ch).perfBin, (r.entries.get ch).mainsBin)))

/-- R82, R91, R76: a channel's detector after the closes at the entry to DRAINING. -/
def drainedDetector (d : Detector) : Detector := { d with ctx := none, hist := .empty, commandCount := 0 }

/-! ### Messages on the link -/

/-- R156: an IDLE frame that carries a control word. -/
def controlFrame (k : CtlKind) (w : Word) : LinkFrame := ⟨.idle, 0, Quad.all 0, k, w⟩

/-- R156, R167: the frames of an upstream message, in order: HEAD, the payload, CHECK. -/
def messageFrames (c : CmdCode) (payload : List Word) : List LinkFrame :=
  let head : Word := c.code ++ BitVec.ofNat 8 payload.length
  [controlFrame .head head] ++ payload.map (controlFrame .body)
    ++ [controlFrame .check (payload.foldl (fun a w => a + w) head)]

/-- R168: whether a payload has a length that the command accepts. -/
def lengthAccepted : CmdCode → List Word → Bool
  | .queryStatus, p => p.length == 1
  | .writeTable, p => p.length == 29 || p.length == 33
  | .readTable, p => p.length == 2
  | .swapBanks, p => p.length == 1
  | .setFrameTag, p => p.length == 2
  | .forceDefect, p => p.length == 1
  | .readLog, p => p.length == 1
  | .readTemplate, p => p.length == 1
  | .loadTemplate, p => match p with
    | [] => false
    | w :: rest => rest.length == 3 * ((w.extractLsb' 9 6).toNat / 2) + 2 * ((w.extractLsb' 9 6).toNat % 2)
  | .setEventMask, p => p.length == 2
  | .storeProfile, p => p.length == 1
  | .recallProfile, p => p.length == 1
  | .readCounters, p => p.length == 0
  | .clearCounters, p => p.length == 0
  | .cancelSwap, p => p.length == 0
  | .startStream, p => p.length == 0
  | .stopStream, p => p.length == 0
  | .resume, p => p.length == 0
  | .readEventSummary, p => p.length == 0
  | .ackFault, p => p.length == 0
  | .softReset, p => p.length == 0

/-! ### Fields of the tables -/

/-- R137 to R139: the table, the index and the place (from 0) of a field. -/
def fieldPlace : FieldRef → TableCode × Channel × Nat
  | .stream f => (.stream, .ch0, f.idx.val)
  | .chan ch f => (.channel, ch, f.idx.val)
  | .gain ch i => (.gain, ch, i.val)

/-- R168: the word that names a table and an index. -/
def tableName (table : TableCode) (ix : Channel) : Word :=
  BitVec.ofNat 8 (channelNum ix) ++ BitVec.ofNat 8 (tableNum table)

/-- R143: a value clamped to the range of a field. -/
def clampedTo (r : FieldRef) (v : BitVec 32) : BitVec 32 :=
  BitVec.ofNat 32 (max (fieldSpec r).lo (min (fieldSpec r).hi v.toNat))

/-- R146: what an exchange of banks makes of a state whose tables are sound: the tables, Pm with the phase
test of R54, and max_len_eff under the new active bank. The events are left aside. -/
def exchanged (s : State) : State :=
  let b := s.tables.active.opposite
  let pm := max 16 (min 16383
    (if setting s b (.stream .mainsMode) = 0 then s.tracker.period * setting s b (.stream .mainsRatio) / 256
     else setting s b (.stream .mainsFreePeriod)))
  { s with
    tables := { s.tables with
      pendingX := none
      active := b
      other := if 0 < s.bankCount s.tables.active then .retiring else .standby }
    canc := { s.canc with
      mainsPeriod := pm
      mainsPhase := if pm = s.canc.mainsPeriod then s.canc.mainsPhase
        else Quad.build (fun ch => if s.canc.mainsPhase.get ch ≥ pm then 0 else s.canc.mainsPhase.get ch) }
    det := Quad.build (fun ch => { s.det.get ch with
      maxLenEff := min (setting s b (.chan ch .maxLen)) (s.stream.lEff - setting s b (.chan ch .closeRun) - 2) }) }

/-- R171, R172: an event raised in a state: the record with the frame tag and offset as they stand, taken
by the event queue. -/
def withEvent (k : EventKind) (ch : Option Channel) (p : Option (BitVec 32)) (s : State) : State :=
  { s with events := takeRaising ⟨k, ch, s.film.tag, s.film.offset, p⟩ s.events }

/-- R172: what the event queue holds after records have been raised one after another, and nothing else. -/
def RaisedAfter (before after : Events) : Prop :=
  ∃ rs : List EventRecord, after = rs.foldl (fun e r => takeRaising r e) before

/-- R115, R117: an entry appended to a log with room, with the LOG_HALF or LOG_WRAP it raises. -/
def appended (e : LogEntry) (s : State) : State :=
  let n : BitVec 32 := BitVec.ofNat 32 (s.log.unread + 1)
  let u := if s.log.writeIdx = 128 then withEvent .logHalf none (some n) s
    else if s.log.writeIdx = 0 ∧ s.log.appended = true then withEvent .logWrap none (some n) s
    else s
  { u with log := { writeSlot s.log.writeIdx e s.log with
      writeIdx := s.log.writeIdx + 1, unread := s.log.unread + 1, appended := true } }

/-- R170: the parameter of MEMORY_CORRECTED for a ring value. -/
def ringParam (p : Serial) : BitVec 32 := BitVec.ofNat 32 (2 * 2 ^ 30 + p.toNat % 2 ^ 30)

/-- The ring with the flags of one channel's entry rewritten in the records of one serial. -/
def reflagged (p : Serial) (ch : Channel) (f : RecFlags → RecFlags) (ring : List FrameRecord) :
    List FrameRecord :=
  ring.map (fun r => if r.serial = p then
    { r with entries := r.entries.set ch { r.entries.get ch with flags := f (r.entries.get ch).flags } } else r)

/-- R105, R106: the ring with `g` positions of a channel, from `first` on, given new values with fresh
parity and new flags: the i-th of them, from 1, takes `value i`. -/
def refilled (ch : Channel) (first : Serial) (g : Nat) (value : Nat → Sample) (f : RecFlags → RecFlags)
    (ring : List FrameRecord) : List FrameRecord :=
  ring.map (fun r => if (r.serial - first).toNat < g then
    { r with entries := r.entries.set ch { r.entries.get ch with
        cell := freshCell (value ((r.serial - first).toNat + 1))
        flags := f (r.entries.get ch).flags } }
    else r)

/-- R108, R123, R129: the value with which a channel of a released record departs: 0 where the record's bank
does not select it, the last output value where the stored one fails its check, and else the stored value,
with its hiss step where the record is processed and hiss is enabled. -/
def departingValue (s : State) (r : FrameRecord) (ch : Channel) : Sample :=
  let c := (r.entries.get ch).cell
  if inMask (setting s r.bank (.stream .channelMask)) ch = false then 0
  else if cellOk c = false then s.lastOut.get ch
  else if r.processed = true ∧ setting s r.bank (.chan ch .hissEnable) ≠ 0 then
    BitVec.ofInt 24 (hissValue (hissSettings s r.bank ch) (s.hiss.get ch) c.val.toInt)
  else c.val

/-- R56: the bins' phase after a record, with the phase at which the record was taken. -/
def phaseAfter (phase period : Nat) : Nat := if phase + 1 ≥ period then 0 else phase + 1

/-- R53, R54: the state with P replaced and Pm recomputed from it under sound tables. -/
def withPeriod (t : Tracker) (s : State) : State :=
  let a := s.tables.active
  let pm := max 16 (min 16383 (if setting s a (.stream .mainsMode) = 0 then
    t.period * setting s a (.stream .mainsRatio) / 256 else setting s a (.stream .mainsFreePeriod)))
  { s with
    tracker := t
    canc := { s.canc with
      mainsPeriod := pm
      mainsPhase := if pm = s.canc.mainsPeriod then s.canc.mainsPhase
        else Quad.build (fun ch => if s.canc.mainsPhase.get ch ≥ pm then 0 else s.canc.mainsPhase.get ch) } }

/-- What a hard reset makes of a state, before its boot recall ends (R14, R15, R34, R40, R42, R52, R58, R72,
R94, R107, R120, R134, R153, R163, R181, R187). -/
def HardResetTaken (s t : State) : Prop :=
  t.link = ⟨.good, 0, Quad.all 0⟩ ∧
  (t.stream.state, t.stream.armed, t.stream.nextSerial) = (.idle, false, 0) ∧
  t.ring = [] ∧ t.film = ⟨0, 0, 0⟩ ∧ t.tracker = ⟨.acquire, 2000, 0, 0, false⟩ ∧
  (t.canc.perfPhase, t.canc.mainsPhase) = (Quad.all 0, Quad.all 0) ∧
  (∀ (ch : Channel) (e : Engine) (b : BitVec 6), binCell t.canc ch e b = freshCell 0) ∧
  (∀ ch : Channel, t.det.get ch = ⟨.empty, 0, 0, 0, none, (s.det.get ch).maxLenEff⟩) ∧
  t.lastOut = Quad.all 0 ∧ t.hiss = Quad.all ⟨0, 0, 4096⟩ ∧
  (∀ i, logSlot t.log i = none) ∧
  (t.log.writeIdx, t.log.readIdx, t.log.unread, t.log.overrunReported, t.log.appended) =
    (0, 0, 0, false, false) ∧
  (t.tables.active, t.tables.other, t.tables.pendingX) = (.b0, .standby, none) ∧
  (t.tables.fault0, t.tables.fault1) = (false, false) ∧
  t.cmd = ⟨none, []⟩ ∧ t.tx = none ∧
  (t.events.queue, t.events.mask, t.events.seen, t.events.lost) = ([], 0, 0, 0) ∧
  (∀ k : Fin 18, t.events.kept[k] = none) ∧
  t.fault = ⟨none, false, .normal⟩ ∧ t.store = ⟨s.store.slots, .booting⟩ ∧
  t.counters = ⟨0, 0, 0, 0, 0, 0, 0, 0, 0, 0, 0, 0, 0, 0⟩

end Sys2Proof.Safety
end

