-- ==== Sys2Proof/Certificates/Slice0/Obligations.lean ====
section
/-! DEFINITION. The statements for the provers. Where a statement rests on a choice of the model, its
docstring names the log entry. -/

open Sys2Proof Sys2Proof.Machine Sys2Proof.Safety

/-! ### The queue and the encodings -/

/-- A step carries out the command at the front of the queue on the state with the rest of the queue; with
nothing waiting the part idles (the model's choice, log entry 15). -/
def Obligations.StepTakesFrontCommand : Prop :=
  (∀ (c : Instr) (rest : List Instr) (s : State), s.pending = c :: rest →
    step s = exec c { s with pending := rest }) ∧
  (∀ s : State, s.pending = [] → step s = .next s)

/-- R1, R2, R13, R166: every frame, formed and received, gives its fields back; and a formed frame with any
one of its 127 bits changed is a BAD slot. -/
def Obligations.FrameRoundTrip : Prop :=
  (∀ f : LinkFrame, parseFrame (formFrame f) = some f) ∧
  (∀ (f : LinkFrame) (i : Nat), i < 127 → parseFrame (formFrame f ^^^ (1#127 <<< i)) = none)

/-- R157, R158: what the command unit does with each control word and with the BAD indication, in WAIT_HEAD
and in COLLECT, with the stray-word and superseded-message counters; and what closes a message: discarded
where two replies are held, refused with LINK_ERROR, BAD_LENGTH, BAD_CHECK, BAD_COMMAND or BUSY in the order
of the tests, or executed. -/
def Obligations.FramingAndItsRefusals : Prop :=
  ∀ (s : State) (f : LinkFrame),
    let collecting := fun a : Option Assembly => ({ s with cmd := ⟨a, s.cmd.replies⟩ } : State)
    let begun : Assembly := ⟨f.data.extractLsb' 8 8, f.data.extractLsb' 0 8, 0, [], f.data, false⟩
    (f.kind = .none → takeControl (some f) s = s) ∧
    (s.cmd.assembly = none →
      takeControl none s = s ∧
      (f.kind = .head → takeControl (some f) s = collecting (some begun)) ∧
      (f.kind = .body ∨ f.kind = .check → takeControl (some f) s =
        { s with counters := { s.counters with strayWord := satInc s.counters.strayWord } })) ∧
    (∀ a, s.cmd.assembly = some a →
      takeControl none s = collecting (some { a with corrupt := true }) ∧
      (f.kind = .head → takeControl (some f) s = { collecting (some begun) with
        counters := { s.counters with superseded := satInc s.counters.superseded } }) ∧
      (f.kind = .body → takeControl (some f) s = collecting (some { a with
        sum := a.sum + f.data, count := min 64 (a.count + 1)
        words := if a.count < 63 then a.words ++ [f.data] else a.words })) ∧
      (f.kind = .check →
        let sound := a.length.toNat ≤ 63 ∧ a.count = a.length.toNat
        let answer := fun st : Word =>
          ({ s with cmd := ⟨none, s.cmd.replies ++ [⟨a.code, [st]⟩]⟩ } : State)
        let refused := fun st : Word => ({ answer st with
          counters := { s.counters with refusedMsg := satInc s.counters.refusedMsg } } : State)
        (2 ≤ s.cmd.replies.length → takeControl (some f) s = { collecting none with
          counters := { s.counters with replyOverrun := satInc s.counters.replyOverrun } }) ∧
        (s.cmd.replies.length < 2 → a.corrupt = true → takeControl (some f) s = refused 9) ∧
        (s.cmd.replies.length < 2 → a.corrupt = false → ¬ sound → takeControl (some f) s = refused 4) ∧
        (s.cmd.replies.length < 2 → a.corrupt = false → sound → f.data ≠ a.sum →
          takeControl (some f) s = refused 3) ∧
        (s.cmd.replies.length < 2 → a.corrupt = false → sound → f.data = a.sum →
          (a.code = 0 ∨ 22 ≤ a.code.toNat → takeControl (some f) s = answer 5) ∧
          (1 ≤ a.code.toNat → a.code.toNat ≤ 21 → s.booting = true → takeControl (some f) s = answer 7) ∧
          (∀ c : CmdCode, a.code = c.code → s.booting = false →
            takeControl (some f) s = runCommand c a.words (collecting none)))))

/-- R166, R167, R168: words written out from the layouts. An IDLE frame with HEAD 257, and the HEADs of
READ_LOG with one word, QUERY_STATUS with one word, CANCEL_SWAP and WRITE_TABLE with 33 words. -/
def Obligations.WrittenWordsDecode : Prop :=
  parseFrame (0b10110001#8 ++ 0#1 ++ 0#3 ++ 0#96 ++ 0b01#2 ++ 0b0000000100000001#16 ++ 1#1)
    = some ⟨.idle, 0, Quad.all 0, .head, 257⟩ ∧
  (headCode 3329, headLength 3329) = (13, 1) ∧ decodeMessage 13 [4] = some (.readLog [4]) ∧
  (headCode 257, headLength 257) = (1, 1) ∧ decodeMessage 1 [0] = some (.queryStatus [0]) ∧
  (headCode 1792, headLength 1792) = (7, 0) ∧ decodeMessage 7 [] = some (.cancelSwap []) ∧
  (headCode 1057, headLength 1057) = (4, 33) ∧ decodeMessage 0 [] = none ∧ decodeMessage 22 [] = none

/-- R156 to R159, R168: handed to the command unit one by one, the words of a message with 0 to 63 payload
words do what the command's own row does. The row stands for the close of a sound message (log entry 3). -/
def Obligations.MessageReachesItsCommand : Prop :=
  ∀ (c : CmdCode) (payload : List Word) (s : State), s.live = true → s.cmd.assembly = none →
    payload.length ≤ 63 →
    exec (instrOfCommand c payload) s =
      .next ((messageFrames c payload).foldl (fun t f => takeControl (some f) t) s)

/-- R156, R164, R165, R167, R170: with no message in transmission, a waiting reply is sent whole in
consecutive departing frames (HEAD, body, CHECK), and leaves the buffer with its last word; with no reply
waiting, so is the oldest event record, whose HEAD carries its kind, the class EVENT and the length 6, and
which leaves the queue. -/
def Obligations.MessagesAreSentWhole : Prop :=
  (∀ (s : State) (r : Reply) (rest : List Reply), s.tx = none → s.cmd.replies = r :: rest →
    r.body.length ≤ 61 →
    let head : Word := r.code ++ BitVec.ofNat 8 r.body.length
    let words : List (CtlKind × Word) :=
      (.head, head) :: r.body.map (fun w => (.body, w)) ++ [(.check, r.body.foldl (fun a w => a + w) head)]
    (∀ i, i < words.length →
      (egressStep^[i + 1] s).out.departed =
        some (formFrame ⟨s.out.slot.ftype, s.out.slot.marker.code, s.out.slot.samples,
          (words.getD i (.none, 0)).1, (words.getD i (.none, 0)).2⟩)) ∧
    (∃ d, egressStep^[words.length] s =
      { s with cmd := { s.cmd with replies := rest }, out := { s.out with departed := d } })) ∧
  (∀ (s : State) (e : EventRecord) (rest : List EventRecord), s.tx = none → s.cmd.replies = [] →
    s.events.queue = e :: rest →
    let head : Word := BitVec.ofNat 8 (kindNum e.kind).val ++ BitVec.ofNat 8 (64 + 6)
    let words : List (CtlKind × Word) :=
      (.head, head) :: (eventWords e).map (fun w => (.body, w))
        ++ [(.check, (eventWords e).foldl (fun a w => a + w) head)]
    words.length = 8 ∧
    (∀ i, i < 8 →
      (egressStep^[i + 1] s).out.departed =
        some (formFrame ⟨s.out.slot.ftype, s.out.slot.marker.code, s.out.slot.samples,
          (words.getD i (.none, 0)).1, (words.getD i (.none, 0)).2⟩)) ∧
    (∃ d, egressStep^[8] s =
      { s with events := { s.events with queue := rest }, out := { s.out with departed := d } }))

/-! ### Reset -/

/-- The values that the chapters give for a hard reset (R15, R34, R40, R42, R52, R72, R94, R107, R120, R134,
R153, R163, R181), with Pm 3,843 (R53) and max_len_eff 32; and State.reset meets every invariant that is
stated of the steps. That State.reset is a power-up whose boot has ended with slot 0 INVALID is the model's
choice (log entry 1), and so is that no value is upset (log entry 16). -/
def Obligations.ResetValues : Prop :=
  (State.reset.link = ⟨.good, 0, Quad.all 0⟩ ∧ State.reset.stream = ⟨.idle, false, 256, 0⟩ ∧
  State.reset.ring = [] ∧ State.reset.film = ⟨0, 0, 0⟩ ∧
  State.reset.tracker = ⟨.acquire, 2000, 0, 0, false⟩ ∧
  (State.reset.canc.perfPhase, State.reset.canc.mainsPhase, State.reset.canc.mainsPeriod)
    = (Quad.all 0, Quad.all 0, 3843) ∧
  (∀ (ch : Channel) (e : Engine) (b : BitVec 6), binCell State.reset.canc ch e b = freshCell 0) ∧
  (∀ ch : Channel, State.reset.det.get ch = ⟨.empty, 0, 0, 0, none, 32⟩) ∧
  State.reset.lastOut = Quad.all 0 ∧
  (State.reset.log.writeIdx, State.reset.log.readIdx, State.reset.log.unread) = (0, 0, 0) ∧
  State.reset.hiss = Quad.all ⟨0, 0, 4096⟩ ∧
  (∀ (b : BankId) (r : FieldRef),
    storedField State.reset b r = freshField (BitVec.ofNat 32 (fieldSpec r).dflt)) ∧
  (State.reset.tables.active, State.reset.tables.other, State.reset.tables.pendingX)
    = (.b0, .standby, none) ∧
  State.reset.cmd = ⟨none, []⟩ ∧ State.reset.tx = none ∧
  State.reset.events.queue = [⟨.resetDone, none, 0, 0, some 128⟩] ∧ State.reset.events.mask = 0 ∧
  State.reset.fault = ⟨none, false, .normal⟩ ∧ State.reset.store.op = .ready ∧
  State.reset.counters = ⟨0, 0, 0, 0, 0, 0, 0, 0, 0, 0, 0, 0, 0, 0⟩) ∧
  (QueuesBounded State.reset ∧ MaskKept State.reset ∧ FaultKept State.reset ∧ PeriodsKept State.reset ∧
  StreamKept State.reset ∧ SerialsKept State.reset ∧ BanksKept State.reset ∧ LogKept State.reset ∧
  LevelsKept State.reset ∧ SoundTables State.reset ∧ SoundCells State.reset ∧ NoUpset State.reset ∧
  AssemblyKept State.reset)

/-! ### Values that fail their checks -/

/-- R61, R75, R99, R108: MEMORY_CORRECTED. A failing template bin reads as 0 and is rewritten. A value that
is upset between its placing and the detector's read (how it comes to be is log entry 16) is taken as the
newest value of the history; its position is flagged and forced with the cause MEMORY and reported. A
failing anchor is reported and its entry marked. A release reports each failing active value, in channel
order. -/
def Obligations.MemoryErrorsAreCorrected : Prop :=
  (∀ (s : State) (ch : Channel) (e : Engine) (b : BitVec 6),
    let c := binCell s.canc ch e b
    (cellOk c = true → binValue s.canc ch e b = c.val ∧ readBin ch e b s = s) ∧
    (cellOk c = false → binValue s.canc ch e b = 0 ∧ ∃ canc : Canceller,
      readBin ch e b s = withEvent .memoryCorrected (some ch)
        (some (BitVec.ofNat 32 ((match e with | .perf => 0 | .mains => 2 ^ 30) + b.toNat)))
        { s with canc := canc } ∧
      (canc.perfPhase, canc.mainsPhase, canc.mainsPeriod) =
        (s.canc.perfPhase, s.canc.mainsPhase, s.canc.mainsPeriod) ∧
      ∀ (ch' : Channel) (e' : Engine) (b' : BitVec 6), binCell canc ch' e' b' =
        if ch' = ch ∧ e' = e ∧ b' = b then freshCell 0 else binCell s.canc ch' e' b')) ∧
  (∀ (s : State) (ch : Channel) (stamp : BitVec 16) (x : Quad Sample), SoundTables s →
    s.fault.mode = .normal → s.work = ⟨false, false⟩ → (∀ c, (s.det.get c).ctx = none) →
    inMask (setting s s.tables.active (.stream .channelMask)) ch = true →
    setting s s.tables.active (.chan ch .clickEnable) ≠ 0 → s.upset.get ch = true →
    let t := admitRecord .none stamp (some x) s
    ∃ (new : FrameRecord) (c : Context), t.ring.getLast? = some new ∧ new.serial = s.stream.nextSerial ∧
      cellOk (new.entries.get ch).cell = false ∧ (new.entries.get ch).flags.memory = true ∧
      (new.entries.get ch).flags.flagged = true ∧
      (t.det.get ch).ctx = some c ∧ c.last = s.stream.nextSerial ∧ c.causes.memory = true ∧
      newestValue (t.det.get ch).hist = newestValue (s.det.get ch).hist ∧ NoUpset t ∧
      RaisedAfter s.events t.events ∧ t.events.seen.getLsbD 17 = true) ∧
  (∀ (s : State) (ch : Channel) (p : Serial) (c : Cell),
    (cellOk c = true → anchorValue (some c) = some c.val ∧ readAnchor ch p (some c) s = s) ∧
    (cellOk c = false → anchorValue (some c) = none ∧ readAnchor ch p (some c) s =
      withEvent .memoryCorrected (some ch) (some (ringParam p))
        { s with ring := reflagged p ch (fun f => { f with memory := true }) s.ring }) ∧
    anchorValue none = none ∧ readAnchor ch p none s = s) ∧
  (∀ (s : State) (r : FrameRecord), s.serving = true → s.stream.state = .draining → s.ring = [r] →
    r.processed = false → fieldOk (storedField s r.bank (.stream .channelMask)) = true →
    let fails := fun ch => inMask (setting s r.bank (.stream .channelMask)) ch &&
      !cellOk (r.entries.get ch).cell
    ∃ t, exec .drainEnd s = .next t ∧
      t.events = (([Channel.ch0, .ch1, .ch2, .ch3].filter fails).foldl
        (fun e ch => takeRaising ⟨.memoryCorrected, some ch, s.film.tag, s.film.offset,
          some (ringParam r.serial)⟩ e)
        (takeRaising ⟨.streamState, none, s.film.tag, s.film.offset, some 0⟩ s.events)) ∧
      (∀ ch, fails ch = true → t.lastOut.get ch = s.lastOut.get ch) ∧ t.hiss = s.hiss ∧ t.fault = s.fault)

/-! ### Invariants that every step keeps -/

/-- R160, R172, R174, R177: at most two replies and 32 event records are held, the unmaskable kinds stay
unmasked, the pending set holds only masked kinds, and the double-fault indication goes with the latch.
R157: a message in assembly stores at most 63 words, and its body count stops at 64. -/
def Obligations.StepKeepsQueuesAndLatch : Prop :=
  StepKeeps (fun s => QueuesBounded s ∧ MaskKept s ∧ FaultKept s) ∧ StepKeeps AssemblyKept

/-- R19, R21, R22, R25, R29, R32, R140, R141: what the ring holds in each stream state, its serials, L_eff,
the tables' ranges, and the bank states. -/
def Obligations.StepKeepsRingAndBanks : Prop :=
  StepKeeps (fun s => StreamKept s ∧ SerialsKept s ∧ BanksKept s)

/-- R45, R46, R53 to R56: P and Pm stay within 16 to 16,383, and the four channels' phases stay equal and
below their periods. -/
def Obligations.StepKeepsPeriods : Prop := StepKeeps PeriodsKept

/-- R79, R125 to R129, R143: E, Lb, V and g stay within their ranges. -/
def Obligations.StepKeepsLevels : Prop := StepKeeps LevelsKept

/-- R110, R114 to R119: the log's indices agree with its unread count, and every unread slot has an entry. -/
def Obligations.StepKeepsLog : Prop := StepKeeps LogKept

/-- R28, R55, R136: every write stores fresh parity, so stored values that pass their checks go on passing,
where none is upset. A memory upset is no step of the model (log entry 16). -/
def Obligations.StepKeepsParity : Prop := StepKeeps (fun s => SoundTables s ∧ SoundCells s ∧ NoUpset s)

/-! ### The click detector's centres -/

/-- R77 to R79, R84, R88, R89: a centre is compared, its threshold's fields sound. Above the threshold it is
flagged, counted and reaches the context as DETECTED with its residual. A centre forced at its own admission
changes nothing else. A clean one moves E a sixty-fourth of the way, and, after the end of a context, lengthens
the clean run, which closes the context where it is full. -/
def Obligations.CentreIsCompared : Prop :=
  ∀ (s : State) (ch : Channel) (n : Serial) (vn v1 v2 : Sample),
    let a := s.tables.active
    fieldOk (storedField s a (.chan ch .tFloor)) = true → fieldOk (storedField s a (.chan ch .k)) = true →
    let size := (vn.toInt - 2 * v1.toInt + v2.toInt).natAbs
    let level := (s.det.get ch).level
    let t := max (setting s a (.chan ch .tFloor)) (level * setting s a (.chan ch .k) / 16)
    let forced := (ringFind s.ring (n - 1)).any (fun r => (r.entries.get ch).flags.flagged)
    let step := ((level : Int) + ((size : Int) - (level : Int)) / 64).toNat
    let out := evaluateCentre ch n vn v1 v2 s
    let moved := fun c : Option Context =>
      ({ s with det := s.det.set ch { s.det.get ch with level := step, ctx := c } } : State)
    size ≤ 33554430 ∧ (min level size ≤ step ∧ step ≤ max level size) ∧
    (t < size → out = settleFlagged ch (n - 1) ⟨true, false, false, false, false⟩ (some size) { s with
      ring := reflagged (n - 1) ch (fun f => { f with flagged := true }) s.ring
      counters := { s.counters with detected := satInc s.counters.detected } }) ∧
    (size ≤ t → forced = true → out = s) ∧
    (size ≤ t → forced = false → (s.det.get ch).ctx = none → out = moved none) ∧
    (∀ c, size ≤ t → forced = false → (s.det.get ch).ctx = some c →
      let later := 0 < (n - 1 - c.last).toNat ∧ (n - 1 - c.last).toNat < 2 ^ 31
      let longer := moved (some { c with cleanRun := c.cleanRun + 1 })
      (¬ later → out = moved (some c)) ∧
      (later → c.cleanRun + 1 ≠ c.closeRun → out = longer) ∧
      (later → c.cleanRun + 1 = c.closeRun → out = closeContext ch (s.stream.nextSerial - 1) longer))

/-! ### The latch -/

/-- R178: LATCHED_BYPASS is left only by a reset: no command but an arrival whose control word is a CHECK
(which may carry SOFT_RESET), SOFT_RESET itself, the release of the reset input and a power-up ends it. -/
def Obligations.LatchedUntilReset : Prop :=
  ∀ (c : Instr) (s t : State), s.fault.mode = .latched → exec c s = .next t →
    (∀ bits f, c = .arrival bits → parseFrame bits = some f → f.kind ≠ .check) →
    (∀ p, c ≠ .softReset p) → c ≠ .hardResetRelease → c ≠ .powerUp →
    t.fault.mode = .latched

/-! ### The commands -/

/-- R62, R73, R161, R166, R169: QUERY_STATUS replies with the part asked for, changes nothing else, and
refuses a part above 4; the words 2 to 26 of part 0 and 2 to 21 of parts 1 to 4. -/
def Obligations.QueryStatusReplies : Prop :=
  (∀ (s : State) (w : Word), Ready s →
    exec (.queryStatus [w]) s =
      .next (afterReply s 1 (if w.toNat ≤ 4 then 0 :: statusPart w.toNat s else [6]))) ∧
  (∀ s : State, QueuesBounded s →
    let two := fun v : BitVec 32 => [v.extractLsb' 0 16, v.extractLsb' 16 16]
    let bankState := fun b : BankId => (if b = s.tables.active then (0 : BitVec 2)
      else match s.tables.other with
        | .standby => 1
        | .retiring => 2
        | .loading => 3)
    ∃ w2 w3 w4 : Word,
      statusPart 0 s = [w2, w3, w4, BitVec.ofNat 16 s.stream.lEff, BitVec.ofNat 16 s.ring.length,
          BitVec.ofNat 16 (s.bankCount .b0), BitVec.ofNat 16 (s.bankCount .b1)]
        ++ two s.stream.nextSerial ++ [BitVec.ofNat 16 s.link.badCount]
        ++ [s.film.tag.extractLsb' 0 16, 0#8 ++ s.film.tag.extractLsb' 16 8, s.film.offset, s.film.guard,
          BitVec.ofNat 16 s.tracker.period, BitVec.ofNat 16 (s.tracker.period / 8), s.tracker.since,
          0#8 ++ s.tracker.miss, BitVec.ofNat 16 s.canc.mainsPeriod, BitVec.ofNat 16 s.canc.perfPhase.c0,
          BitVec.ofNat 16 s.canc.mainsPhase.c0, s.log.readIdx ++ s.log.writeIdx,
          BitVec.ofNat 16 s.log.unread]
        ++ two s.counters.logLost ∧
      (w2.extractLsb' 0 3 = 0 ∧ w2.extractLsb' 3 2 = BitVec.ofNat 2 (streamStateNum s.stream.state) ∧
        w2.getLsbD 5 = s.stream.armed ∧ w2.getLsbD 6 = (s.link.cond == .lost) ∧
        w2.extractLsb' 7 2 = BitVec.ofNat 2 (modeNum s.fault.mode) ∧
        w2.getLsbD 9 = s.fault.capture.isSome ∧ w2.getLsbD 10 = s.fault.double ∧
        w2.getLsbD 11 = (s.tables.active == .b1) ∧
        w2.extractLsb' 12 4 = BitVec.ofNat 4 (pendingNum s.tables.pendingX)) ∧
      (w3.extractLsb' 0 2 = bankState .b0 ∧ w3.extractLsb' 2 2 = bankState .b1 ∧
        w3.getLsbD 4 = s.tables.fault0 ∧ w3.getLsbD 5 = s.tables.fault1 ∧
        w3.extractLsb' 6 2 = BitVec.ofNat 2 (trackerStateNum s.tracker.state) ∧
        w3.getLsbD 8 = s.tracker.firstSeen ∧ w3.getLsbD 9 = s.log.overrunReported ∧
        w3.getLsbD 10 = ((unreadEntries s.log).head?.any (fun e => e.outcome == .stillOpen)) ∧
        w3.extractLsb' 11 2 = BitVec.ofNat 2 s.cmd.replies.length ∧
        w3.extractLsb' 13 3 = BitVec.ofNat 3 (engineStateNum s.store.op)) ∧
      (w4.getLsbD 0 = s.store.slots.c0.valid ∧ w4.getLsbD 1 = s.store.slots.c1.valid ∧
        w4.getLsbD 2 = s.store.slots.c2.valid ∧ w4.getLsbD 3 = s.store.slots.c3.valid ∧
        w4.extractLsb' 4 12 = BitVec.ofNat 12 s.events.queue.length)) ∧
  (∀ (s : State) (ch : Channel),
    let a := s.tables.active
    let d := s.det.get ch
    let h := s.hiss.get ch
    let two := fun v : BitVec 32 => [v.extractLsb' 0 16, v.extractLsb' 16 16]
    let ofCtx := fun f : Context → Nat => (d.ctx.map f).getD 0
    let ctxBit := fun f : Context → Bool => (d.ctx.map f).getD false
    let disabled := fun e : Engine =>
      !(inMask (setting s a (.stream .channelMask)) ch && setting s a (enableField ch e) != 0)
    let bypass := s.fault.mode != .normal
    let stopped := s.stream.state == .idle || s.stream.state == .draining
    ∃ w2 w3 : Word,
      statusPart (channelNum ch + 1) s = [w2, w3, BitVec.ofNat 16 (d.spliceCount + 256 * d.commandCount),
          BitVec.ofNat 16 (d.maxLenEff + 256 * ofCtx (fun c => c.cleanRun))]
        ++ two (BitVec.ofNat 32 d.level)
        ++ two ((historyStart d.hist).getD 0)
        ++ two ((d.ctx.map (fun c => c.first)).getD 0) ++ two ((d.ctx.map (fun c => c.last)).getD 0)
        ++ [BitVec.ofNat 16 (ofCtx (fun c => min 65535 ((c.last - c.first).toNat + 1)))]
        ++ two (BitVec.ofNat 32 (ofCtx (fun c => c.peak.getD 0)))
        ++ two (BitVec.ofInt 32 h.low) ++ two (BitVec.ofNat 32 h.env) ++ [BitVec.ofNat 16 h.gain] ∧
      (w2.extractLsb' 0 3 = BitVec.ofNat 3 (channelNum ch + 1) ∧
        w2.extractLsb' 3 2 = BitVec.ofNat 2 (ofCtx (fun c => if c.long then 2 else 1)) ∧
        w2.extractLsb' 5 2 = (match d.hist with
          | .empty => 0
          | .one _ _ => 1
          | .two _ _ _ _ => 2) ∧
        w2.getLsbD 7 = (historyStart d.hist).isSome ∧ w2.getLsbD 8 = ctxBit (fun c => c.logIdx.isSome) ∧
        w2.getLsbD 9 = ctxBit (fun c => c.peak.isSome) ∧
        w2.getLsbD 10 = ctxBit (fun c => c.bank == .b1) ∧ w2.extractLsb' 11 5 = 0) ∧
      ((w3.getLsbD 0, w3.getLsbD 1, w3.getLsbD 2, w3.getLsbD 3, w3.getLsbD 4) =
        (disabled .perf, s.film.guard != 0, s.tracker.state != .locked, bypass, stopped) ∧
        (w3.getLsbD 5, w3.getLsbD 6, w3.getLsbD 7, w3.getLsbD 8, w3.getLsbD 9) =
        (disabled .mains, s.film.guard != 0, false, bypass, stopped) ∧
        (w3.getLsbD 10, w3.getLsbD 11, w3.getLsbD 12, w3.getLsbD 13, w3.getLsbD 14, w3.getLsbD 15) =
        (ctxBit (fun c => c.causes.detected), ctxBit (fun c => c.causes.link),
          ctxBit (fun c => c.causes.splice), ctxBit (fun c => c.causes.command),
          ctxBit (fun c => c.causes.memory), false)))

/-- R162, R168: READ_COUNTERS replies with the fourteen counters, low word first, and CLEAR_COUNTERS sets
them to 0; neither changes anything else. -/
def Obligations.CountersReadAndCleared : Prop :=
  ∀ s : State, Ready s →
    let c := s.counters
    exec (.readCounters []) s =
      .next (afterReply s 2 (0 :: [c.badFrame, c.dropout, c.markerError, c.linkLoss, c.drainedInput,
        c.perfOutlier, c.subClip, c.detected, c.longDefect, c.logLost, c.strayWord, c.superseded,
        c.refusedMsg, c.replyOverrun].flatMap (fun v => [v.extractLsb' 0 16, v.extractLsb' 16 16]))) ∧
    exec (.clearCounters []) s =
      .next { afterReply s 3 [0] with counters := ⟨0, 0, 0, 0, 0, 0, 0, 0, 0, 0, 0, 0, 0, 0⟩ }

/-- R142, R143: WRITE_TABLE with the values of a whole record writes each field of that record of the
standby bank, clamped and with fresh parity, and no other field; the bank's table-fault flag becomes no;
the reply is OK, or OK_CLAMPED with the number of the first clamped field, and names the bank. While the
standby bank is not STANDBY it is refused with BUSY. A payload that names no table, an index out of the
table's range, or a number of values other than the table's, is refused with BAD_PARAM. -/
def Obligations.WriteTableWritesOneRecord : Prop :=
  (∀ (s : State) (head : Word) (rest : List Word), Ready s → rest.length ≤ 62 →
    let table := (head.extractLsb' 0 8).toNat
    let index := (head.extractLsb' 8 8).toNat
    2 < table ∨ (table = 0 ∧ index ≠ 0) ∨ 3 < index ∨ rest.length ≠ (if table = 0 then 28 else 32) →
    exec (.writeTable (head :: rest)) s = .next (afterReply s 4 [6])) ∧
  (∀ (s : State) (table : TableCode) (ix : Channel) (vs : List (BitVec 32)), Ready s →
    vs.length = (if table = .stream then 14 else 16) → (table = .stream → ix = .ch0) →
    let payload := tableName table ix :: vs.flatMap (fun v => [v.extractLsb' 0 16, v.extractLsb' 16 16])
    let b := s.tables.active.opposite
    (s.tables.other ≠ .standby → exec (.writeTable payload) s = .next (afterReply s 4 [7])) ∧
    (s.tables.other = .standby → ∃ (t : State) (st : Word),
      exec (.writeTable payload) s = .next t ∧
      t = { afterReply s 4 [st, BitVec.ofNat 16 b.num] with tables := t.tables } ∧
      (∀ r : FieldRef, storedField t b r =
        if (fieldPlace r).1 = table ∧ (fieldPlace r).2.1 = ix then
          freshField (clampedTo r (vs.getD (fieldPlace r).2.2 0))
        else storedField s b r) ∧
      (∀ r : FieldRef, storedField t s.tables.active r = storedField s s.tables.active r) ∧
      tableFault t.tables b = false ∧
      tableFault t.tables s.tables.active = tableFault s.tables s.tables.active ∧
      (t.tables.active, t.tables.other, t.tables.pendingX) =
        (s.tables.active, s.tables.other, s.tables.pendingX) ∧
      ((∀ r : FieldRef, (fieldPlace r).1 = table → (fieldPlace r).2.1 = ix →
          clampedTo r (vs.getD (fieldPlace r).2.2 0) = vs.getD (fieldPlace r).2.2 0) → st = 0) ∧
      (∀ r : FieldRef, (fieldPlace r).1 = table → (fieldPlace r).2.1 = ix →
        clampedTo r (vs.getD (fieldPlace r).2.2 0) ≠ vs.getD (fieldPlace r).2.2 0 →
        (∀ q : FieldRef, (fieldPlace q).1 = table → (fieldPlace q).2.1 = ix →
          (fieldPlace q).2.2 < (fieldPlace r).2.2 →
          clampedTo q (vs.getD (fieldPlace q).2.2 0) = vs.getD (fieldPlace q).2.2 0) →
        st = BitVec.ofNat 16 (1 + 256 * ((fieldPlace r).2.2 + 1)))))

/-- R144, R150, R152: READ_TABLE replies with the bank, its state, the table, the index, the first failing
field, and every field of the record (a failing one as its default), and changes nothing but the reply
buffer. A payload that names no bank, no table, or an index out of the table's range, is refused with
BAD_PARAM. -/
def Obligations.ReadTableReplies : Prop :=
  (∀ (s : State) (bank name : Word), Ready s →
    let table := (name.extractLsb' 0 8).toNat
    let index := (name.extractLsb' 8 8).toNat
    1 < bank.toNat ∨ 2 < table ∨ (table = 0 ∧ index ≠ 0) ∨ 3 < index →
    exec (.readTable [bank, name]) s = .next (afterReply s 5 [6])) ∧
  (∀ (s : State) (b : BankId) (table : TableCode) (ix : Channel), Ready s → (table = .stream → ix = .ch0) →
    ∃ (name first : Word) (values : List (BitVec 32)),
      exec (.readTable [BitVec.ofNat 16 b.num, tableName table ix]) s =
        .next (afterReply s 5 (0 :: name :: first ::
          values.flatMap (fun v => [v.extractLsb' 0 16, v.extractLsb' 16 16]))) ∧
      values.length = (if table = .stream then 14 else 16) ∧
      (∀ r : FieldRef, (fieldPlace r).1 = table → (fieldPlace r).2.1 = ix →
        values.getD (fieldPlace r).2.2 0 =
          if fieldOk (storedField s b r) then (storedField s b r).val
          else BitVec.ofNat 32 (fieldSpec r).dflt) ∧
      ((∀ r : FieldRef, (fieldPlace r).1 = table → (fieldPlace r).2.1 = ix →
          fieldOk (storedField s b r) = true) → first = 0) ∧
      (∀ r : FieldRef, (fieldPlace r).1 = table → (fieldPlace r).2.1 = ix →
        fieldOk (storedField s b r) = false →
        (∀ q : FieldRef, (fieldPlace q).1 = table → (fieldPlace q).2.1 = ix →
          (fieldPlace q).2.2 < (fieldPlace r).2.2 → fieldOk (storedField s b q) = true) →
        first = BitVec.ofNat 16 ((fieldPlace r).2.2 + 1)) ∧
      name.getLsbD 0 = (b == .b1) ∧
      name.extractLsb' 1 2 =
        (if b = s.tables.active then 0
         else match s.tables.other with
           | .standby => 1
           | .retiring => 2
           | .loading => 3) ∧
      name.extractLsb' 3 2 = BitVec.ofNat 2 (tableNum table) ∧
      name.extractLsb' 5 2 = BitVec.ofNat 2 (channelNum ix) ∧ name.extractLsb' 7 9 = 0)

/-- R145 to R148, R168: SWAP_BANKS, CANCEL_SWAP and the pending exchange. A trigger above 3 is refused with
BAD_PARAM; a pending exchange or a standby bank that is not STANDBY with BUSY; a trigger that waits becomes
the pending exchange; NOW, with sound tables, carries out the exchange, and raises SWAP_DONE behind the
reply. CANCEL_SWAP leaves no exchange pending and is answered OK in both cases. The pending exchange whose
trigger is met is carried out, with sound tables, and raises SWAP_DONE; one whose trigger is not met waits. -/
def Obligations.BankExchanges : Prop :=
  (∀ (s : State) (w : Word), Ready s →
    let busy := s.tables.pendingX ≠ none ∨ s.tables.other ≠ .standby
    (3 < w.toNat → exec (.swapBanks [w]) s = .next (afterReply s 6 [6])) ∧
    (w.toNat ≤ 3 → busy → exec (.swapBanks [w]) s = .next (afterReply s 6 [7])) ∧
    (¬ busy →
      exec (.swapBanks [1]) s =
        .next { afterReply s 6 [0] with tables := { s.tables with pendingX := some .nextFrame } } ∧
      exec (.swapBanks [2]) s =
        .next { afterReply s 6 [0] with tables := { s.tables with pendingX := some .nextSplice } } ∧
      exec (.swapBanks [3]) s =
        .next { afterReply s 6 [0] with tables := { s.tables with pendingX := some .streamStart } } ∧
      (SoundTables s → exec (.swapBanks [0]) s =
        .next (withEvent .swapDone none (some (BitVec.ofNat 32 s.tables.active.opposite.num))
          (exchanged (afterReply s 6 [0])))))) ∧
  (∀ s : State, Ready s →
    exec (.cancelSwap []) s = .next { afterReply s 7 [0] with tables := { s.tables with pendingX := none } }) ∧
  (∀ (s : State) (w : Trigger), s.serving = true →
    (s.tables.pendingX = some w → SoundTables s → exec (.pendingExchange w) s = .next
      (withEvent .swapDone none (some (BitVec.ofNat 32 s.tables.active.opposite.num)) (exchanged s))) ∧
    (s.tables.pendingX ≠ some w → exec (.pendingExchange w) s = .next s))

/-! ### The click detector's positions -/

/-- R74 to R76, R80 to R82, R91: the detector takes an admitted record on a channel, the fields that decide
whether it is watched being sound. A position that is not watched closes the context, empties the history
and uses the countdowns. A watched one is read (the newest value of the history for a failing one), the
centre before it is evaluated where the history is full, its forced causes reach the context, and it joins
the history, whose mark that its start has left the ring is the model's own (INVENTORY.md). -/
def Obligations.AdmittedPositionIsTaken : Prop :=
  ∀ (s : State) (ch : Channel) (r : FrameRecord),
    let a := s.tables.active
    fieldOk (storedField s a (.stream .channelMask)) = true →
    fieldOk (storedField s a (.chan ch .clickEnable)) = true →
    let watched := r.processed = true ∧ inMask (setting s a (.stream .channelMask)) ch = true ∧
      setting s a (.chan ch .clickEnable) ≠ 0
    let n := r.serial
    let used := fun (u : State) (h : History) => ({ u with det := u.det.set ch { u.det.get ch with
      hist := h
      spliceCount := (u.det.get ch).spliceCount - 1
      commandCount := (u.det.get ch).commandCount - 1 } } : State)
    (¬ watched → detectChannel r ch s = used (closeContext ch (n - 1) s) .empty) ∧
    (watched →
      let cell := (r.entries.get ch).cell
      let failed := !cellOk cell
      let v : Sample := if failed then (match (s.det.get ch).hist with
        | .empty => 0
        | .one _ w => w
        | .two _ w _ _ => w) else cell.val
      let read : State := if failed then withEvent .memoryCorrected (some ch) (some (ringParam n))
        { s with ring := reflagged n ch (fun f => { f with memory := true }) s.ring } else s
      let seen : State := match (s.det.get ch).hist with
        | .empty => read
        | .one _ _ => read
        | .two _ v1 v2 _ => evaluateCentre ch n v v1 v2 read
      let causes : Causes := ⟨false, (r.entries.get ch).flags.link, decide (0 < (s.det.get ch).spliceCount),
        decide (0 < (s.det.get ch).commandCount), failed⟩
      let forced : State := if causes = ⟨false, false, false, false, false⟩ then seen
        else settleFlagged ch n causes none
          { seen with ring := reflagged n ch (fun f => { f with flagged := true }) seen.ring }
      detectChannel r ch s = used forced (match (forced.det.get ch).hist with
        | .empty => .one n v
        | .one st w => .two st v w false
        | .two st w _ aged => .two st v w (aged || decide (1024 ≤ (n - st).toNat))))

/-! ### The commands of the stream, the faults and the film position -/

/-- R18, R150: START_STREAM is refused with WRONG_STATE where the link is LOST, the stream is not IDLE, or
start_mode reads as MARKER; else it arms a start. With start_mode sound nothing else changes; with
start_mode failing its check it reads as EITHER, and the start is armed. -/
def Obligations.StartStreamArms : Prop :=
  ∀ s : State, Ready s →
    let mode := setting s s.tables.active (.stream .startMode)
    (s.link.cond = .lost ∨ s.stream.state ≠ .idle →
      exec (.startStream []) s = .next (afterReply s 8 [8])) ∧
    (s.link.cond = .good → s.stream.state = .idle → mode = 1 →
      exec (.startStream []) s = .next (afterReply s 8 [8])) ∧
    (s.link.cond = .good → s.stream.state = .idle → mode ≠ 1 →
      fieldOk (storedField s s.tables.active (.stream .startMode)) = true →
      exec (.startStream []) s = .next { afterReply s 8 [0] with stream := { s.stream with armed := true } }) ∧
    (s.link.cond = .good → s.stream.state = .idle →
      fieldOk (storedField s s.tables.active (.stream .startMode)) = false →
      ∃ t, exec (.startStream []) s = .next t ∧ t.stream = { s.stream with armed := true } ∧
        t.cmd = answered s 8 [0])

/-- R24, R25, R27, R82, R91: STOP_STREAM cancels an armed start in IDLE, changes nothing in DRAINING, is
refused with WRONG_STATE in a reel whose stop_mode reads as MARKER, and else enters DRAINING: STREAM_STATE is
raised first, every context is closed, every history emptied, every command count 0, and what names the
records in the ring stands. With no context open nothing else is raised. -/
def Obligations.StopStreamDrains : Prop :=
  ∀ s : State, Ready s →
    let mode := setting s s.tables.active (.stream .stopMode)
    let reel := s.stream.state = .priming ∨ s.stream.state = .running
    let announced := takeRaising ⟨.streamState, none, s.film.tag, s.film.offset, some 3⟩ s.events
    (s.stream.state = .idle →
      exec (.stopStream []) s = .next { afterReply s 9 [0] with stream := { s.stream with armed := false } }) ∧
    (s.stream.state = .draining → exec (.stopStream []) s = .next (afterReply s 9 [0])) ∧
    (reel → mode = 1 → exec (.stopStream []) s = .next (afterReply s 9 [8])) ∧
    (reel → mode ≠ 1 → ∃ t, exec (.stopStream []) s = .next t ∧
      t.cmd = answered s 9 [0] ∧ t.stream = { s.stream with state := .draining } ∧
      (∀ ch, t.det.get ch = drainedDetector (s.det.get ch)) ∧
      t.ring.map recordKey = s.ring.map recordKey ∧
      (t.power, t.link, t.film, t.tracker, t.canc) = (s.power, s.link, s.film, s.tracker, s.canc) ∧
      (t.lastOut, t.hiss, t.tx, t.store, t.out) = (s.lastOut, s.hiss, s.tx, s.store, s.out) ∧
      (t.tables.bank0, t.tables.bank1, t.tables.active, t.tables.other, t.tables.pendingX) =
        (s.tables.bank0, s.tables.bank1, s.tables.active, s.tables.other, s.tables.pendingX) ∧
      (fieldOk (storedField s s.tables.active (.stream .stopMode)) = true →
        RaisedAfter announced t.events ∧
        ((∀ ch, (s.det.get ch).ctx = none) →
          t.events = announced ∧ t.ring = s.ring ∧ t.log = s.log ∧ t.counters = s.counters)))

/-- R91, R118, R176 to R178, R180: the fault unit and RESUME. A first fault fills the capture record, raises
FAULT and reads its policy: REPORT, or a failing policy field, ends there; BYPASS turns NORMAL to BYPASS. A
second fault keeps the record, latches the mode, and raises DOUBLE_FAULT. When the mode leaves NORMAL every
context is closed, channels 0 to 3 in turn, and every history emptied: at once, at the end of an admission's
detector work, or behind the close within which the mode changed (log entry 9); that DOUBLE_FAULT does not wait
with them is the model's choice (log entry 25). RESUME returns BYPASS to NORMAL where the capture record is
empty, and is refused with WRONG_STATE in every other bypass. -/
def Obligations.FaultsAndTheMode : Prop :=
  (∀ (s : State) (k : FaultKind) (ch : Option Channel) (e : Option Engine),
    let a := s.tables.active
    let policy : FieldRef := match k with
      | .tableMemory => .stream .policyTable
      | .templateSaturation => .stream .policyTemplate
    let param : Option (BitVec 32) := some (BitVec.ofNat 32 ((match k with
        | .tableMemory => 0
        | .templateSaturation => 1) + (match e with
          | none => 0
          | some .perf => 2
          | some .mains => 4)))
    let cap : Capture := ⟨k, ch, e, s.film.tag, s.film.offset, s.stream.state, s.fault.mode, a, s.fault.double⟩
    let first := withEvent .fault ch param { s with fault := { s.fault with capture := some cap } }
    (s.fault.capture = none → fieldOk (storedField s a policy) = false →
      takeFault k ch e s = { first with tables := withTableFault s.tables a true }) ∧
    (s.fault.capture = none → fieldOk (storedField s a policy) = true →
      setting s a policy ≠ 1 ∨ s.fault.mode ≠ .normal → takeFault k ch e s = first) ∧
    (s.fault.capture = none → fieldOk (storedField s a policy) = true → setting s a policy = 1 →
      s.fault.mode = .normal →
      let bypassed : State := { first with fault := { first.fault with mode := .bypass } }
      takeFault k ch e s = if s.work.admitting then { bypassed with work := ⟨true, true⟩ }
        else bypassCloses bypassed) ∧
    (∀ c, s.fault.capture = some c →
      let latched : State := { s with fault := { s.fault with mode := .latched } }
      let left : State := if s.fault.mode ≠ .normal then latched
        else if s.work.admitting then { latched with work := ⟨true, true⟩ } else bypassCloses latched
      takeFault k ch e s =
        withEvent .doubleFault ch param { left with fault := { left.fault with double := true } } ∧
      (takeFault k ch e s).fault.capture = some c ∧ (takeFault k ch e s).fault.mode = .latched)) ∧
  (∀ s : State, ∀ ch, (bypassCloses s).det.get ch = { s.det.get ch with ctx := none, hist := .empty }) ∧
  (∀ s : State, s.log.unread + 4 ≤ 256 →
    (∀ ch c, (s.det.get ch).ctx = some c → c.long = true ∧ c.logIdx = none ∧
      fieldOk (storedField s c.bank (.stream .logMode)) = true ∧ setting s c.bank (.stream .logMode) = 0) →
    bypassCloses s = { [Channel.ch0, .ch1, .ch2, .ch3].foldl (fun u ch => match (s.det.get ch).ctx with
        | none => u
        | some c => appended ⟨ch, c.causes, .unrepaired, c.tag, c.offset,
            min 65535 ((c.last - c.first).toNat + 1), c.peak, c.bank⟩ u) s with
      det := Quad.build (fun ch => { s.det.get ch with ctx := none, hist := .empty }) }) ∧
  (∀ s : State, endAdmission s = if s.work.closesPending then bypassCloses { s with work := ⟨false, false⟩ }
    else { s with work := ⟨false, false⟩ }) ∧
  (∀ (s : State) (ch : Channel) (p : Serial), let t := closeOne ch p s
    (s.fault.mode = .normal → t.fault.mode ≠ .normal → s.work.admitting = false →
      closeContext ch p s = bypassCloses t) ∧
    (s.fault.mode ≠ .normal ∨ t.fault.mode = .normal → closeContext ch p s = t)) ∧
  (∀ s : State, Ready s →
    (s.fault.mode = .normal → exec (.resume []) s = .next (afterReply s 10 [0])) ∧
    (s.fault.mode = .latched → exec (.resume []) s = .next (afterReply s 10 [8])) ∧
    (s.fault.mode = .bypass → s.fault.capture ≠ none →
      exec (.resume []) s = .next (afterReply s 10 [8])) ∧
    (s.fault.mode = .bypass → s.fault.capture = none →
      exec (.resume []) s = .next { afterReply s 10 [0] with fault := { s.fault with mode := .normal } }))

/-- R39: SET_FRAME_TAG loads a tag up to 16,777,215 with offset 0, and refuses a larger value. -/
def Obligations.SetFrameTagLoads : Prop :=
  ∀ (s : State) (lo hi : Word), Ready s →
    ((hi ++ lo : BitVec 32).toNat ≤ 16777215 →
      exec (.setFrameTag [lo, hi]) s = .next { afterReply s 11 [0] with
        film := { s.film with tag := BitVec.ofNat 24 (hi ++ lo : BitVec 32).toNat, offset := 0 } }) ∧
    (16777215 < (hi ++ lo : BitVec 32).toNat → exec (.setFrameTag [lo, hi]) s = .next (afterReply s 11 [6]))

/-- R82, R168: FORCE_DEFECT loads the command count of each channel of its set, in PRIMING and RUNNING. -/
def Obligations.ForceDefectLoadsCounts : Prop :=
  ∀ (s : State) (w : Word), Ready s →
    let count := (w.extractLsb' 8 7).toNat
    let bad := w.extractLsb' 0 4 = 0 ∨ count = 0 ∨ 64 < count
    let rest := s.stream.state = .idle ∨ s.stream.state = .draining
    (bad → exec (.forceDefect [w]) s = .next (afterReply s 12 [6])) ∧
    (¬ bad → rest → exec (.forceDefect [w]) s = .next (afterReply s 12 [8])) ∧
    (¬ bad → ¬ rest → ∃ t, exec (.forceDefect [w]) s = .next t ∧
      t = { afterReply s 12 [0] with det := t.det } ∧
      ∀ ch, t.det.get ch =
        if w.getLsbD (channelNum ch) then { s.det.get ch with commandCount := count } else s.det.get ch)

/-- R119, R168: READ_LOG returns the k oldest unread entries, none of them OPEN, where k is the smallest of
n, nine and the number that stand before the first OPEN one; it reports the unread count after it, the lost
count, and whether it stopped at an OPEN entry; the read index moves by k. -/
def Obligations.ReadLogReturnsOldest : Prop :=
  ∀ (s : State) (w : Word), Ready s → LogSound s.log →
    let n := w.toNat
    let entryAt := fun i => logSlot s.log (s.log.readIdx + BitVec.ofNat 8 i)
    (n = 0 ∨ 16 < n → exec (.readLog [w]) s = .next (afterReply s 13 [6])) ∧
    (1 ≤ n → n ≤ 16 → ∃ (k : Nat) (stopped : Bool) (entries : List LogEntry),
      k ≤ n ∧ k ≤ 9 ∧ k ≤ s.log.unread ∧ entries.length = k ∧
      (∀ i, i < k → ∃ e, entryAt i = some e ∧ entries[i]? = some e ∧ e.outcome ≠ .stillOpen) ∧
      (k < n → k < 9 → k < s.log.unread → ∃ e, entryAt k = some e ∧ e.outcome = .stillOpen) ∧
      (stopped = true ↔ k < n ∧ k < 9 ∧ k < s.log.unread) ∧
      exec (.readLog [w]) s = .next
        { afterReply s 13 ([0, BitVec.ofNat 16 (k + (if stopped then 16 else 0)),
            BitVec.ofNat 16 (s.log.unread - k), s.counters.logLost.extractLsb' 0 16,
            s.counters.logLost.extractLsb' 16 16] ++ entries.flatMap logEntryWords) with
          log := { s.log with
            readIdx := s.log.readIdx + BitVec.ofNat 8 k
            unread := s.log.unread - k
            overrunReported := false } })

/-- R61, R70, R71, R168: READ_TEMPLATE replies with the bins from the first upward, as many as the count or
the template's end allows, a failing bin as 0; it corrects the failing bins it read and no other, and reports
each in order. LOAD_TEMPLATE in IDLE writes the bins it carries, in order and with fresh parity, and no
other; it is refused with WRONG_STATE outside IDLE, and with BAD_PARAM where the count is 0 or above 32, the
bins would pass the template's end, or the words do not carry the count. -/
def Obligations.TemplateCommands : Prop :=
  (∀ (s : State) (w : Word), Ready s →
    let ch := channelOf (w.extractLsb' 0 2).toNat
    let e : Engine := if w.getLsbD 2 then .mains else .perf
    let first := (w.extractLsb' 3 6).toNat
    let count := (w.extractLsb' 9 6).toNat
    let k := min count (64 - first)
    (count = 0 ∨ 32 < count → exec (.readTemplate [w]) s = .next (afterReply s 14 [6])) ∧
    (1 ≤ count → count ≤ 32 → ∃ t, exec (.readTemplate [w]) s = .next t ∧
      t = { afterReply s 14 (0 :: (0#1 ++ BitVec.ofNat 6 k ++ w.extractLsb' 0 9) ::
          packBins ((List.range k).map (fun i =>
            let c := binCell s.canc ch e (BitVec.ofNat 6 (first + i))
            if cellOk c then c.val else 0))) with canc := t.canc, events := t.events } ∧
      (t.canc.perfPhase, t.canc.mainsPhase, t.canc.mainsPeriod) =
        (s.canc.perfPhase, s.canc.mainsPhase, s.canc.mainsPeriod) ∧
      (∀ (ch' : Channel) (e' : Engine) (b : BitVec 6), binCell t.canc ch' e' b =
        if ch' = ch ∧ e' = e ∧ first ≤ b.toNat ∧ b.toNat < first + k ∧ cellOk (binCell s.canc ch e b) = false
        then freshCell 0 else binCell s.canc ch' e' b) ∧
      t.events = ((List.range k).filter
          (fun i => !cellOk (binCell s.canc ch e (BitVec.ofNat 6 (first + i))))).foldl
        (fun ev i => takeRaising ⟨.memoryCorrected, some ch, s.film.tag, s.film.offset,
          some (BitVec.ofNat 32 ((match e with | .perf => 0 | .mains => 2 ^ 30) + (first + i)))⟩ ev)
        s.events)) ∧
  (∀ (s : State) (w : Word) (rest : List Word), Ready s → rest.length ≤ 62 →
    let first := (w.extractLsb' 3 6).toNat
    let count := (w.extractLsb' 9 6).toNat
    count = 0 ∨ 32 < count ∨ 64 < first + count ∨ rest.length ≠ 3 * (count / 2) + 2 * (count % 2) →
    exec (.loadTemplate (w :: rest)) s = .next (afterReply s 15 [6])) ∧
  (∀ (s : State) (w : Word) (vs : List Sample), Ready s →
    let ch := channelOf (w.extractLsb' 0 2).toNat
    let e : Engine := if w.getLsbD 2 then .mains else .perf
    let first := (w.extractLsb' 3 6).toNat
    let count := (w.extractLsb' 9 6).toNat
    1 ≤ count → count ≤ 32 → vs.length = count → first + count ≤ 64 →
    (s.stream.state ≠ .idle →
      exec (.loadTemplate (w :: packBins vs)) s = .next (afterReply s 15 [8])) ∧
    (s.stream.state = .idle → ∃ t, exec (.loadTemplate (w :: packBins vs)) s = .next t ∧
      t = { afterReply s 15 [0] with canc := t.canc } ∧
      (t.canc.perfPhase, t.canc.mainsPhase, t.canc.mainsPeriod) =
        (s.canc.perfPhase, s.canc.mainsPhase, s.canc.mainsPeriod) ∧
      ∀ (ch' : Channel) (e' : Engine) (b : BitVec 6), binCell t.canc ch' e' b =
        if ch' = ch ∧ e' = e ∧ first ≤ b.toNat ∧ b.toNat < first + count
        then freshCell (vs.getD (b.toNat - first) 0) else binCell s.canc ch' e' b))

/-! ### The defect context -/

/-- R83 to R87, R113: a flagged position reaches a channel's context. It opens one, with the frame position
of its record and the limits of the active bank, and, in log_mode AT_OPEN, an OPEN entry whose index the
context holds; it extends one, which turns LONG and is counted where it outgrows max_len_eff; reaching it a
second time it adds its cause and peak alone. -/
def Obligations.FlaggedPositionsGather : Prop :=
  ∀ (s : State) (ch : Channel) (p : Serial) (causes : Causes) (peak : Option Nat),
    let a := s.tables.active
    let d := s.det.get ch
    let holding := fun (u : State) (c : Context) =>
      ({ u with det := u.det.set ch { u.det.get ch with ctx := some c } } : State)
    (∀ r, d.ctx = none → ringFind s.ring p = some r →
      fieldOk (storedField s a (.chan ch .closeRun)) = true →
      fieldOk (storedField s a (.stream .logMode)) = true →
      let c : Context := ⟨false, p, p, r.tag, r.offset, causes, peak, 0, a, d.maxLenEff,
        setting s a (.chan ch .closeRun), none⟩
      (setting s a (.stream .logMode) ≠ 1 → settleFlagged ch p causes peak s = holding s c) ∧
      (setting s a (.stream .logMode) = 1 → s.log.unread < 256 →
        settleFlagged ch p causes peak s =
          holding (appended ⟨ch, causes, .stillOpen, r.tag, r.offset, 1, peak, a⟩ s)
            { c with logIdx := some s.log.writeIdx })) ∧
    (∀ c, d.ctx = some c →
      let joined : Causes := ⟨c.causes.detected || causes.detected, c.causes.link || causes.link,
        c.causes.splice || causes.splice, c.causes.command || causes.command,
        c.causes.memory || causes.memory⟩
      let highest : Option Nat := match c.peak, peak with
        | some x, some y => some (max x y)
        | some x, none => some x
        | none, y => y
      let same := { c with causes := joined, peak := highest }
      let long := c.maxLen < (p - c.first).toNat + 1
      (p = c.last → settleFlagged ch p causes peak s = holding s same) ∧
      (p ≠ c.last → c.long = true ∨ ¬ long →
        settleFlagged ch p causes peak s = holding s { same with last := p, cleanRun := 0 }) ∧
      (p ≠ c.last → c.long = false → long → settleFlagged ch p causes peak s =
        { holding s { same with last := p, cleanRun := 0, long := true } with
          counters := { s.counters with longDefect := satInc s.counters.longDefect } }))

/-! ### The commands of the events and the store, and the resets -/

/-- R174: SET_EVENT_MASK replaces the mask but for the ignored bits and replies OK_CLAMPED where one of them
was set; every kind it leaves unmasked leaves the pending set; where no record was lost before and the queue
has room for them, their records join the queue in the order of their codes. -/
def Obligations.SetEventMaskReplaces : Prop :=
  ∀ (s : State) (lo hi : Word), Ready s →
    let mask : BitVec 32 := hi ++ lo
    let leaving := (List.finRange 18).filterMap
      (fun k => if (mask &&& ~~~0xFFFD6000#32).getLsbD k.val then none else s.events.kept[k])
    ∃ t, exec (.setEventMask [lo, hi]) s = .next t ∧
      t = { afterReply s 16 [if mask &&& 0xFFFD6000#32 = 0 then 0 else 1] with events := t.events } ∧
      t.events.mask = mask &&& ~~~0xFFFD6000#32 ∧
      (∀ k : Fin 18, t.events.mask.getLsbD k.val = false → t.events.kept[k] = none) ∧
      (∀ k : Fin 18, t.events.mask.getLsbD k.val = true → k ≠ 15 → t.events.kept[k] = s.events.kept[k]) ∧
      (s.events.lost = 0 → s.events.queue.length + leaving.length ≤ 32 →
        t.events.queue = s.events.queue ++ leaving ∧ t.events.seen = s.events.seen ∧ t.events.lost = 0)

/-- R173: READ_EVENT_SUMMARY replies with the seen set and the pending set, and empties the seen set. -/
def Obligations.ReadEventSummaryReplies : Prop :=
  ∀ s : State, Ready s → ∃ kept : BitVec 32,
    (∀ i : Fin 32, kept.getLsbD i.val = if h : i.val < 18 then (s.events.kept[i.val]'h).isSome else false) ∧
    exec (.readEventSummary []) s = .next
      { afterReply s 17 [0, s.events.seen.extractLsb' 0 16, s.events.seen.extractLsb' 16 16,
          kept.extractLsb' 0 16, kept.extractLsb' 16 16] with events := { s.events with seen := 0 } }

/-- R179: ACK_FAULT returns the capture record in the four words of R170 and empties it, and is answered OK
with no data where it is empty. -/
def Obligations.AckFaultReturnsCapture : Prop :=
  ∀ s : State, Ready s →
    (s.fault.capture = none → exec (.ackFault []) s = .next (afterReply s 18 [0])) ∧
    (∀ c, s.fault.capture = some c → exec (.ackFault []) s =
      .next { afterReply s 18 (0 :: captureWords c) with fault := { s.fault with capture := none } })

/-- R152, R183 to R185: STORE_PROFILE copies the bank that is not ACTIVE, field by field, a failing field as
its default; the slot becomes INVALID and the engine ERASING; it is refused with BUSY while the engine is
not READY, and with BAD_PARAM for a slot above 3. RECALL_PROFILE's tests in their order, and its acceptance:
the standby bank becomes LOADING, the engine READING. -/
def Obligations.StoreAndRecallBegin : Prop :=
  (∀ (s : State) (w : Word), Ready s →
    let i := channelOf w.toNat
    (3 < w.toNat → exec (.storeProfile [w]) s = .next (afterReply s 19 [6])) ∧
    (w.toNat ≤ 3 → s.store.op ≠ .ready → exec (.storeProfile [w]) s = .next (afterReply s 19 [7])) ∧
    (w.toNat ≤ 3 → s.store.op = .ready → ∃ img,
      (∀ r : FieldRef, img.field r = BitVec.ofNat 32 (setting s s.tables.active.opposite r)) ∧
      exec (.storeProfile [w]) s = .next { afterReply s 19 [2] with
        store := ⟨s.store.slots.set i { s.store.slots.get i with valid := false },
          .erasing i img (imageCheck img)⟩ })) ∧
  (∀ (s : State) (w : Word), Ready s →
    let i := channelOf w.toNat
    let valid := (s.store.slots.get i).valid
    let blocked := s.tables.other = .retiring ∨ s.tables.pendingX ≠ none
    (3 < w.toNat → exec (.recallProfile [w]) s = .next (afterReply s 20 [6])) ∧
    (w.toNat ≤ 3 → valid = false → exec (.recallProfile [w]) s = .next (afterReply s 20 [10])) ∧
    (w.toNat ≤ 3 → valid = true → s.store.op ≠ .ready ∨ blocked →
      exec (.recallProfile [w]) s = .next (afterReply s 20 [7])) ∧
    (w.toNat ≤ 3 → valid = true → s.store.op = .ready → ¬ blocked →
      exec (.recallProfile [w]) s = .next { afterReply s 20 [2] with
        tables := { s.tables with other := .loading }
        store := { s.store with op := .recalling i } }))

/-! ### The repair unit -/

/-- R32, R96 to R106: the span of the anchors, measured by serial difference so that it holds across the wrap
of the serials; the anchors, read leading first; and the fill and outcome that they give: the line between
two, the trailing value alone, the held leading value, or nothing. -/
def Obligations.RepairFillsFromItsAnchors : Prop :=
  (∀ (f l p : Serial) (i j : Nat), i < 2 ^ 31 → j < 2 ^ 31 →
    (inSpan ⟨some f, f + BitVec.ofNat 32 j⟩ (f + BitVec.ofNat 32 i) = true ↔ i ≤ j) ∧
    (inSpan ⟨none, l⟩ (l - BitVec.ofNat 32 i) = true) ∧
    (0 < i → inSpan ⟨some f, l⟩ (f - BitVec.ofNat 32 i) = false) ∧
    (0 < i → inSpan ⟨some f, l⟩ (l + BitVec.ofNat 32 i) = false ∧
      inSpan ⟨none, l⟩ (l + BitVec.ofNat 32 i) = false) ∧
    (∀ (s : State) (ch : Channel) (sp : Span),
      anchorCell s ch sp p = if inSpan sp p = true then
        (ringFind s.ring p).map (fun r => (r.entries.get ch).cell) else none)) ∧
  (∀ (s : State) (ch : Channel) (first last : Serial) (sp : Span),
    let lead := anchorCell s ch sp (first - 1)
    let trail := anchorCell s ch sp (last + 1)
    let value := fun c : Option Cell => c.bind (fun c => if cellOk c then some c.val else none)
    let marked := fun (p : Serial) (c : Option Cell) (u : State) => if c.any (fun c => !cellOk c) then
      withEvent .memoryCorrected (some ch) (some (ringParam p))
        { u with ring := reflagged p ch (fun f => { f with memory := true }) u.ring } else u
    let read := marked (last + 1) trail (marked (first - 1) lead s)
    let g := (last - first).toNat + 1
    let filled := fun (v : Nat → Sample) (f : RecFlags → RecFlags) =>
      ({ read with ring := refilled ch first g v f read.ring } : State)
    let repaired := fun f : RecFlags => { f with repaired := true }
    let held := fun f : RecFlags => { f with held := true }
    let outcome := repairResult s ch first last sp
    let out := repair ch first last sp s
    (∀ a b, value lead = some a → value trail = some b → outcome = .repaired ∧
      out = filled (fun i => BitVec.ofInt 24 (a.toInt +
        (2 * (b.toInt - a.toInt) * (i : Int) + ((g : Int) + 1)) / (2 * ((g : Int) + 1)))) repaired) ∧
    (∀ b, value lead = none → value trail = some b → outcome = .repaired ∧
      out = filled (fun _ => b) repaired) ∧
    (∀ a, value lead = some a → value trail = none → outcome = .held ∧ out = filled (fun _ => a) held) ∧
    (value lead = none → value trail = none → outcome = .unrepaired ∧ out = read))

/-! ### Soft reset, and what is not executed -/

/-- R15, R34, R40, R51, R52, R72, R94, R107, R121, R134, R154, R163, R182, R186: SOFT_RESET with sound
tables: what it resets, what it keeps (of the log every entry, of which an unread OPEN one changes its outcome
alone), and the RESET_DONE it raises last. -/
def Obligations.SoftResetValues : Prop :=
  ∀ s : State, Ready s → SoundTables s →
    let a := s.tables.active
    let pm := max 16 (min 16383 (if setting s a (.stream .mainsMode) = 0 then
      2000 * setting s a (.stream .mainsRatio) / 256 else setting s a (.stream .mainsFreePeriod)))
    let l := setting s a (.stream .lookahead)
    ∃ t, exec (.softReset []) s = .next t ∧ t.cmd = answered s 21 [0] ∧
      t.link = ⟨.good, 0, Quad.all 0⟩ ∧ t.stream = ⟨.idle, false, l, 0⟩ ∧ t.ring = [] ∧
      t.film = { s.film with guard := 0 } ∧ t.tracker = ⟨.acquire, 2000, 0, 0, false⟩ ∧
      t.canc = { s.canc with perfPhase := Quad.all 0, mainsPhase := Quad.all 0, mainsPeriod := pm } ∧
      (∀ ch, t.det.get ch = ⟨.empty, (s.det.get ch).level, 0, 0, none,
        min (setting s a (.chan ch .maxLen)) (l - setting s a (.chan ch .closeRun) - 2)⟩) ∧
      t.lastOut = Quad.all 0 ∧ t.hiss = Quad.all ⟨0, 0, 4096⟩ ∧
      t.tables = { s.tables with pendingX := none, other := .standby } ∧
      t.fault = ⟨none, false, .normal⟩ ∧
      (t.log.writeIdx, t.log.readIdx, t.log.unread, t.log.overrunReported, t.log.appended) =
        (s.log.writeIdx, s.log.readIdx, s.log.unread, s.log.overrunReported, s.log.appended) ∧
      (∀ i, logSlot t.log i = (logSlot s.log i).map (fun e =>
        if (i - s.log.readIdx).toNat < s.log.unread ∧ e.outcome = .stillOpen
        then { e with outcome := .unrepaired } else e)) ∧
      (∀ k, k < s.log.unread → k < 256 → ∀ e, logSlot t.log (s.log.readIdx + BitVec.ofNat 8 k) = some e →
        e.outcome ≠ .stillOpen) ∧
      t.store.slots = s.store.slots ∧
      t.store.op = (match s.store.op with | .recalling _ => .ready | op => op) ∧
      (t.tx, t.counters, t.power) = (s.tx, s.counters, s.power) ∧
      t.events = takeRaising ⟨.resetDone, none, s.film.tag, s.film.offset,
        some (BitVec.ofNat 32 (2 + 4 * streamStateNum s.stream.state + 16 * modeNum s.fault.mode))⟩ s.events

/-- R159, R168: a command whose payload has a length it does not accept is answered BAD_PARAM, with no other
effect. -/
def Obligations.WrongLengthIsBadParam : Prop :=
  ∀ (c : CmdCode) (payload : List Word) (s : State), Ready s → payload.length ≤ 63 →
    lengthAccepted c payload = false →
    exec (instrOfCommand c payload) s = .next (afterReply s c.code [6])

/-- R14, R158: a command that is not executed. With two replies held it is discarded and counted; while the
boot recall is read it is answered BUSY; while the reset input is held nothing reaches any block, an arrival
is answered with an empty IDLE frame, whose control data 0 is the model's reading (log entry 10), and no
command has an effect. That a command's row finds the message gathered, and that a part with no supply
takes none, is the model's choice (log entries 3 and 11). -/
def Obligations.CommandsNotExecuted : Prop :=
  ∀ (c : CmdCode) (payload : List Word) (s : State), payload.length ≤ 63 →
    (s.live = true → 2 ≤ s.cmd.replies.length → exec (instrOfCommand c payload) s =
      .next { s with cmd := ⟨none, s.cmd.replies⟩,
                     counters := { s.counters with replyOverrun := satInc s.counters.replyOverrun } }) ∧
    (s.live = true → s.cmd.replies.length < 2 → s.booting = true →
      exec (instrOfCommand c payload) s = .next (afterReply s c.code [7])) ∧
    (s.live = false → exec (instrOfCommand c payload) s = .next s) ∧
    (∀ bits, s.power.supply = true → s.power.resetInput = true → exec (.arrival bits) s =
      .next { s with out := ⟨⟨.idle, .none, Quad.all 0⟩, some (formFrame ⟨.idle, 0, Quad.all 0, .none, 0⟩)⟩ })

/-! ### Rows that come about inside an arrival -/

/-- R19 to R23, R27, R30, R32, R42, R43, R51, R58, R69, R81, R107, R133: an armed start taken, with sound tables:
the stream, its first record, and the start actions, with SWAP_DONE where an exchange waited and STREAM_STATE
PRIMING raised first; a starting frame with REEL_END goes straight on to DRAINING, raised next, where
stop_mode is not COMMAND. A stream start takes the tracker to ACQUIRE with P kept, sets both phases of every
channel to 0, keeps the templates of exactly the channels whose keep_templates is set in the bank then active,
and leaves nothing of the splice guard and the splice counts, but for a starting arrival that itself delivered
SPLICE, whose loaded guard and counts stand. That the row counts the slot in the frame offset (R37) and takes
the last accepted samples (R9) is the model's reading of what the row finds done (log entry 2). -/
def Obligations.ArmedStartTakesTheSlot : Prop :=
  (∀ (s : State) (m : Marker) (x : Quad Sample), s.serving = true → s.stream.armed = true →
    s.stream.state = .idle → s.ring = [] → SoundTables s → TablesInRange s →
    let b := if s.tables.pendingX = some .streamStart then s.tables.active.opposite else s.tables.active
    let term := fun ch =>
      if inMask (setting s b (.stream .channelMask)) ch = true ∧ setting s b (.chan ch .clickEnable) ≠ 0
      then setting s b (.chan ch .maxLen) + setting s b (.chan ch .closeRun) + 2 else 0
    let l := min 1024 (max (setting s b (.stream .lookahead))
      (max (max (term .ch0) (term .ch1)) (max (term .ch2) (term .ch3))))
    let stops := m = .reelEnd ∧ setting s b (.stream .stopMode) ≠ 0
    let told := fun (k : EventKind) (n : Nat) (e : Events) => takeRaising
      ⟨k, none, s.film.tag, satInc s.film.offset, some (BitVec.ofNat 32 n)⟩ e
    let primed := told .streamState 1
      (if s.tables.pendingX = some .streamStart then told .swapDone b.num s.events else s.events)
    ∃ (t : State) (r : FrameRecord), exec (.armedStartTaken m x) s = .next t ∧
      t.stream = ⟨if stops then .draining else .priming, false, l, 1⟩ ∧ t.ring = [r] ∧
      (r.serial, r.marker, r.tag, r.offset, r.bank, r.processed) =
        (0, m, s.film.tag, s.film.offset, b, s.fault.mode == .normal) ∧
      t.tables.active = b ∧ t.link = { s.link with lastAccepted := x } ∧
      (t.film.tag, t.film.offset) = (s.film.tag, satInc s.film.offset) ∧
      t.lastOut = Quad.all 0 ∧ t.hiss = Quad.all ⟨0, 0, 4096⟩ ∧ t.fault = s.fault ∧
      (∀ (ch : Channel) (e : Engine) (i : BitVec 6), setting s b (.chan ch .keepTemplates) = 0 →
        binCell t.canc ch e i = freshCell 0) ∧
      (t.power, t.cmd, t.tx, t.store) = (s.power, s.cmd, s.tx, s.store) ∧
      (∃ e, RaisedAfter primed e ∧
        RaisedAfter (if stops then told .streamState 3 e else e) t.events)) ∧
  (∀ (s : State) (m : Marker),
    let t := startStreamNow m s
    let b := if s.tables.pendingX = some .streamStart then s.tables.active.opposite else s.tables.active
    t.tables.active = b ∧
    t.tracker = ⟨.acquire, s.tracker.period, 0, 0, false⟩ ∧
    (t.canc.perfPhase, t.canc.mainsPhase) = (Quad.all 0, Quad.all 0) ∧
    (∀ (ch : Channel) (e : Engine) (i : BitVec 6), binCell t.canc ch e i =
      if setting s b (.chan ch .keepTemplates) = 0 then freshCell 0 else binCell s.canc ch e i) ∧
    (t.lastOut, t.hiss, t.link) =
      (Quad.all 0, Quad.all ⟨0, 0, 4096⟩, { s.link with lastAccepted := Quad.all 0 }) ∧
    (∀ ch, (t.det.get ch).spliceCount =
      if m = .splice ∧ inMask (setting s s.tables.active (.stream .channelMask)) ch = true
      then (s.det.get ch).spliceCount else 0) ∧
    (∀ ch, ((t.det.get ch).commandCount, (t.det.get ch).hist, (t.det.get ch).ctx, (t.det.get ch).level) =
      (0, .empty, none, (s.det.get ch).level)) ∧
    t.film = (if m = .splice then s.film else { s.film with guard := 0 }) ∧
    (t.stream.state, t.stream.armed, t.stream.nextSerial) = (.priming, false, 0))

/-- R44 to R51, R53, R54, R56: the perforation tracker takes an admitted record: first marker and lock in
ACQUIRE, acceptance and refinement in the window, outliers, misses and the loss of the lock, the return from
COASTING, and the re-acquiring from LOST; with sound tables Pm follows P. The phases of the record follow
the acceptance. The row PERF_MISS makes the miss where one is due. -/
def Obligations.TrackerFollowsTheMarkers : Prop :=
  (∀ (s : State) (m : Marker), SoundTables s →
    let k := s.tracker
    let n := satInc k.since
    let i := n.toNat
    let w := k.period / 8
    let perf := m = .perf ∨ m = .framePerf
    let tracking := k.state = .locked ∨ k.state = .coasting
    let within := k.period - w ≤ i ∧ i ≤ k.period + w
    let track := fun t : Tracker => ({ s with tracker := t } : State)
    let p := (max 16 (min 16383 ((k.period : Int) + ((i : Int) - (k.period : Int)) / 8))).toNat
    let misses := satInc k.miss
    let lost := setting s s.tables.active (.stream .missLimit) ≤ misses.toNat
    let after := track { k with
      state := if lost then .lost else .coasting, since := BitVec.ofNat 16 w, miss := misses }
    (perf → k.state = .acquire → k.firstSeen = false →
      takeRecord m s = track { k with since := 0, firstSeen := true }) ∧
    (perf → k.state = .acquire → k.firstSeen = true → 16 ≤ i → i ≤ 16383 →
      takeRecord m s = withEvent .perfLocked none (some (BitVec.ofNat 32 i))
        (withPeriod { k with state := .locked, period := i, since := 0, miss := 0 } s)) ∧
    (perf → k.state = .acquire → k.firstSeen = true → i < 16 ∨ 16383 < i →
      takeRecord m s = track { k with since := 0 }) ∧
    (perf → tracking → within → p ≠ k.period →
      takeRecord m s = withPeriod { k with state := .locked, period := p, since := 0, miss := 0 } s) ∧
    (perf → tracking → within → p = k.period →
      takeRecord m s = track { k with state := .locked, since := 0, miss := 0 }) ∧
    (perf → tracking → i < k.period - w → takeRecord m s = { track { k with since := n } with
      counters := { s.counters with perfOutlier := satInc s.counters.perfOutlier } }) ∧
    (perf → k.state = .lost →
      takeRecord m s = track { k with state := .acquire, since := 0, miss := 0, firstSeen := true }) ∧
    (¬ perf → k.state = .acquire ∨ k.state = .lost ∨ i ≠ k.period + w →
      takeRecord m s = track { k with since := n }) ∧
    (¬ perf → tracking → i = k.period + w → takeRecord m s =
      if lost then withEvent .perfLost none (some (BitVec.ofNat 32 k.period)) after else after) ∧
    (markerAccepted m s = true ↔ perf ∧ (k.state = .acquire ∨ k.state = .lost ∨ within))) ∧
  (∀ (s : State) (accepted : Bool), advancePhases accepted s = { s with canc := { s.canc with
    perfPhase := Quad.build (fun ch =>
      phaseAfter (if accepted then 0 else s.canc.perfPhase.get ch) s.tracker.period)
    mainsPhase := Quad.build (fun ch => phaseAfter (s.canc.mainsPhase.get ch) s.canc.mainsPeriod) } }) ∧
  (∀ s : State, s.serving = true → s.tracker.state = .locked ∨ s.tracker.state = .coasting →
    s.tracker.since.toNat = s.tracker.period + s.tracker.period / 8 →
    fieldOk (storedField s s.tables.active (.stream .missLimit)) = true →
    let misses := satInc s.tracker.miss
    let lost := setting s s.tables.active (.stream .missLimit) ≤ misses.toNat
    let u : State := { s with tracker := { s.tracker with
      state := if lost then .lost else .coasting
      since := BitVec.ofNat 16 (s.tracker.period / 8)
      miss := misses } }
    exec .perfMiss s =
      .next (if lost then withEvent .perfLost none (some (BitVec.ofNat 32 s.tracker.period)) u else u))

/-- R32, R89, R96 to R101, R105, R112, R114, R115: a normal close with log_mode sound: the context is repaired
unless it is LONG, its log action is made with the outcome, and it becomes NONE. With log_mode AT_CLOSE and
room in the log a LONG context is logged UNREPAIRED and the ring stands; an OPEN context whose anchors stand
in the span (by serial difference, so across the wrap of the serials too), in the ring and sound is filled
by the rounded line between them and logged REPAIRED. The start of a run that has left the ring does not bound
the span, by the model's own mark of it; a context with no run, which no run of the part reaches, lends its own
start (log entry 19). -/
def Obligations.NormalCloseRepairsAndLogs : Prop :=
  ∀ (s : State) (ch : Channel) (c : Context), s.serving = true → (s.det.get ch).ctx = some c →
    c.cleanRun = c.closeRun → fieldOk (storedField s c.bank (.stream .logMode)) = true →
    let closed := s.det.set ch { s.det.get ch with ctx := none }
    let newest := s.stream.nextSerial - 1
    let start : Option Serial := match (s.det.get ch).hist with
      | .empty => some c.first
      | .one st _ => some st
      | .two st _ _ aged => if aged then none else some st
    let sp : Span := ⟨start, newest⟩
    let mode := setting s c.bank (.stream .logMode)
    let entry := fun o => (⟨ch, c.causes, o, c.tag, c.offset,
      min 65535 ((c.last - c.first).toNat + 1), c.peak, c.bank⟩ : LogEntry)
    let done := fun u : State => ({ u with det := u.det.set ch { u.det.get ch with ctx := none } } : State)
    (c.long = true → exec (.normalClose ch) s = .next (done (recordClose ch .unrepaired c mode s))) ∧
    (c.long = false → exec (.normalClose ch) s = .next (done
      (recordClose ch (repairResult s ch c.first c.last sp) c mode (repair ch c.first c.last sp s)))) ∧
    (c.long = true → c.logIdx = none → mode = 0 → s.log.unread < 256 →
      exec (.normalClose ch) s = .next (appended (entry .unrepaired) { s with det := closed })) ∧
    (∀ (ra rb : FrameRecord), c.long = false → c.logIdx = none → mode = 0 → s.log.unread < 256 →
      (∀ st, start = some st → (c.first - 1 - st).toNat < 2 ^ 31 ∧ (c.last + 1 - st).toNat < 2 ^ 31) →
      (newest - (c.first - 1)).toNat < 2 ^ 31 → (newest - (c.last + 1)).toNat < 2 ^ 31 →
      ringFind s.ring (c.first - 1) = some ra → ringFind s.ring (c.last + 1) = some rb →
      cellOk (ra.entries.get ch).cell = true → cellOk (rb.entries.get ch).cell = true →
      let g := (c.last - c.first).toNat + 1
      let a := (ra.entries.get ch).cell.val.toInt
      let b := (rb.entries.get ch).cell.val.toInt
      let line := fun i : Nat => a + (2 * (b - a) * (i : Int) + ((g : Int) + 1)) / (2 * ((g : Int) + 1))
      exec (.normalClose ch) s = .next (appended (entry .repaired) { s with
        det := closed
        ring := refilled ch c.first g (fun i => BitVec.ofInt 24 (line i))
          (fun f => { f with repaired := true }) s.ring }))

/-- R7, R19, R25, R27: the 256th bad slot with the link GOOD: the link is LOST, counted and announced with
LINK_LOST, and an armed start is cancelled; a reel in PRIMING or RUNNING enters DRAINING, with STREAM_STATE
raised behind LINK_LOST and before what the forced closes raise. -/
def Obligations.LinkLostEndsTheReel : Prop :=
  ∀ s : State, s.serving = true → s.link.cond = .good → s.link.badCount = 256 →
    let reel := s.stream.state = .priming ∨ s.stream.state = .running
    let announced := takeRaising ⟨.streamState, none, s.film.tag, s.film.offset, some 3⟩
      (takeRaising ⟨.linkLost, none, s.film.tag, s.film.offset, none⟩ s.events)
    (¬ reel → exec .linkLost s = .next (withEvent .linkLost none none { s with
      link := { s.link with cond := .lost }
      stream := { s.stream with armed := false }
      counters := { s.counters with linkLoss := satInc s.counters.linkLoss } })) ∧
    (reel → ∃ t, exec .linkLost s = .next t ∧
      t.link = { s.link with cond := .lost } ∧
      t.stream = { s.stream with state := .draining, armed := false } ∧
      t.counters.linkLoss = satInc s.counters.linkLoss ∧
      (∀ ch, t.det.get ch = drainedDetector (s.det.get ch)) ∧
      t.ring.map recordKey = s.ring.map recordKey ∧
      (t.film, t.tracker, t.canc, t.hiss, t.cmd, t.store) =
        (s.film, s.tracker, s.canc, s.hiss, s.cmd, s.store) ∧
      RaisedAfter announced t.events ∧
      ((∀ ch, (s.det.get ch).ctx = none) → t.events = announced ∧ t.ring = s.ring ∧ t.log = s.log))

/-- R12, R16, R25 to R27, R31, R107, R108, R123: releases in DRAINING. The row DRAIN_END, where the ring holds
one record, and, with a start armed only in IDLE (an invariant that every step keeps), an arrival of any class
without a control word and without a marker that moves the film: the oldest record leaves, its frame is a SAMPLE
frame with its marker and the departing values, which become the last output values; the discarded samples of a
SAMPLE slot are counted; and the release that empties the ring returns the stream to IDLE, with STREAM_STATE
raised first. -/
def Obligations.DrainingReleasesTheRing : Prop :=
  (∀ (s : State) (r : FrameRecord), s.serving = true → s.stream.state = .draining → s.ring = [r] →
    ∃ t, exec .drainEnd s = .next t ∧ t.ring = [] ∧ t.stream = { s.stream with state := .idle } ∧
      t.out = { s.out with slot := ⟨.sample, r.marker, t.lastOut⟩ } ∧
      (∀ ch, t.lastOut.get ch = departingValue s r ch) ∧
      t.tables.other = (if s.tables.other = .retiring then .standby else s.tables.other) ∧
      (t.link, t.film, t.tracker, t.cmd, t.tx, t.store) = (s.link, s.film, s.tracker, s.cmd, s.tx, s.store) ∧
      RaisedAfter (takeRaising ⟨.streamState, none, s.film.tag, s.film.offset, some 0⟩ s.events) t.events) ∧
  (∀ (s : State) (bits : BitVec 127) (r : FrameRecord) (rest : List FrameRecord), s.serving = true →
    StreamKept s → s.stream.state = .draining → s.ring = r :: rest → s.cmd.assembly = none →
    parseFrame bits = none ∨ (∃ f, parseFrame bits = some f ∧ f.kind = .none ∧
      (f.ftype = .sample → f.markerCode = 0 ∨ f.markerCode = 1)) →
    ∃ (t : State) (w : CtlKind × Word), exec (.arrival bits) s = .next t ∧
      t.ring.map recordKey = rest.map recordKey ∧
      t.stream = { s.stream with state := if rest = [] then .idle else .draining } ∧
      t.counters.drainedInput = (if (parseFrame bits).any (fun f => f.ftype == .sample)
        then satInc s.counters.drainedInput else s.counters.drainedInput) ∧
      t.counters.badFrame = (if (parseFrame bits).isNone then satInc s.counters.badFrame
        else s.counters.badFrame) ∧
      t.out = ⟨⟨.sample, r.marker, t.lastOut⟩,
        some (formFrame ⟨.sample, r.marker.code, t.lastOut, w.1, w.2⟩)⟩ ∧
      (∀ ch, t.lastOut.get ch = departingValue s r ch) ∧
      (t.film, t.tracker, t.store) = (s.film, s.tracker, s.store) ∧
      t.link.lastAccepted = s.link.lastAccepted)

/-! ### The defect log -/

/-- R112, R114 to R117: the log's actions: an append to a log with room, with its LOG_HALF or LOG_WRAP; an
append to a full log, which discards the oldest entry, counts it, reports the first loss, and takes the index
from the context of an OPEN one; and what a close does: completion in place, an append (also for a context
that lost its index, which is the model's choice, log entry 23), or nothing. -/
def Obligations.LogActions : Prop :=
  (∀ (s : State) (e : LogEntry),
    let lost := satInc s.counters.logLost
    let cut : State := { s with
      log := { s.log with readIdx := s.log.readIdx + 1, unread := 255 }
      counters := { s.counters with logLost := lost } }
    let told : State := if s.log.overrunReported then cut
      else withEvent .logOverrun none (some lost) { cut with log := { cut.log with overrunReported := true } }
    let freed := fun ch : Channel => ({ told with det := told.det.set ch { told.det.get ch with
      ctx := (told.det.get ch).ctx.map (fun c => { c with logIdx := none }) } } : State)
    (s.log.unread < 256 → appendEntry e s = appended e s) ∧
    (s.log.unread = 256 → appendEntry e s = appended e (match logSlot s.log s.log.readIdx with
      | none => told
      | some old => if old.outcome = .stillOpen then freed old.channel else told))) ∧
  (∀ (s : State) (ch : Channel) (o : DefectOutcome) (c : Context) (mode : Nat),
    let length := min 65535 ((c.last - c.first).toNat + 1)
    (∀ i e, c.logIdx = some i → logSlot s.log i = some e → recordClose ch o c mode s = { s with
      log := writeSlot i { e with outcome := o, causes := c.causes, length := length, peak := c.peak } s.log }) ∧
    (c.logIdx = none → mode = 0 → recordClose ch o c mode s =
      appendEntry ⟨ch, c.causes, o, c.tag, c.offset, length, c.peak, c.bank⟩ s) ∧
    (c.logIdx = none → mode = 1 → recordClose ch o c mode s = s))

/-! ### Arrivals -/

/-- R149, R160, R165: a RETIRING bank without a record in the ring becomes STANDBY; a reply or an event
whose last word has been sent leaves the reply buffer or the event queue. -/
def Obligations.RetirementAndMessageEnds : Prop :=
  (∀ s : State, s.serving = true → s.tables.other = .retiring → s.bankCount s.tables.active.opposite = 0 →
    exec .retirementEnd s = .next { s with tables := { s.tables with other := .standby } }) ∧
  (∀ (s : State) (r : Reply) (rest : List Reply), s.live = true → s.cmd.replies = r :: rest →
    s.tx = some ⟨true, r.body.length + 2⟩ →
    exec .messageSent s = .next { s with tx := none, cmd := { s.cmd with replies := rest } }) ∧
  (∀ (s : State) (e : EventRecord) (rest : List EventRecord), s.live = true → s.events.queue = e :: rest →
    s.tx = some ⟨false, 8⟩ →
    exec .messageSent s = .next { s with tx := none, events := { s.events with queue := rest } })

/-- R2 to R4, R6, R8, R11, R13, R37, R157: a slot without a control word in IDLE with no start armed and nothing
to send. A SAMPLE slot with marker NONE or PERF departs as a copy and is counted within the film frame; one
with the unused code 7 departs with NONE; an IDLE slot, and a BAD one, depart as an empty IDLE frame. A code 7
and a marker on an IDLE frame are counted as marker errors, a BAD slot as a bad frame. A lost link is
restored by a slot that is not BAD, with LINK_RESTORED, whose message begins in the same frame unless it is
masked. Nothing else changes but the consecutive-bad count and, for a BAD slot, the CORRUPT mark. -/
def Obligations.IdleSlotPassesThrough : Prop :=
  ∀ (s : State), s.serving = true → s.stream.state = .idle → s.stream.armed = false →
    s.tx = none → s.cmd.replies = [] → s.events.queue = [] →
    (∀ f : LinkFrame, f.kind = .none →
      (f.ftype = .sample → f.markerCode = 0 ∨ f.markerCode = 1 ∨ f.markerCode = 7) →
      let sample := f.ftype = .sample
      let slot : SlotOut := if sample then ⟨.sample, markerOf f.markerCode, f.samples⟩
        else ⟨.idle, .none, Quad.all 0⟩
      let u : State := { s with
        film := { s.film with offset := if sample then satInc s.film.offset else s.film.offset }
        link := ⟨.good, 0, s.link.lastAccepted⟩
        counters := { s.counters with markerError :=
          if f.markerCode = 7 ∨ (¬ sample ∧ f.markerCode ≠ 0) then satInc s.counters.markerError
          else s.counters.markerError } }
      let sent := fun w : CtlKind × Word =>
        (⟨slot, some (formFrame ⟨slot.ftype, slot.marker.code, slot.samples, w.1, w.2⟩)⟩ : Output)
      (s.link.cond = .good → exec (.arrival (formFrame f)) s = .next { u with out := sent (.none, 0) }) ∧
      (s.link.cond = .lost →
        let v := withEvent .linkRestored none none u
        exec (.arrival (formFrame f)) s = .next (match v.events.queue with
          | [] => { v with out := sent (.none, 0) }
          | e :: _ => { v with
              tx := some ⟨false, 1⟩
              out := sent (.head, BitVec.ofNat 8 (kindNum e.kind).val ++ (70 : BitVec 8)) }))) ∧
    (∀ bits, parseFrame bits = none → s.link.cond = .lost ∨ s.link.badCount < 255 →
      exec (.arrival bits) s = .next { s with
        link := { s.link with badCount := min 256 (s.link.badCount + 1) }
        counters := { s.counters with badFrame := satInc s.counters.badFrame }
        cmd := { s.cmd with assembly := s.cmd.assembly.map (fun a => { a with corrupt := true }) }
        out := ⟨⟨.idle, .none, Quad.all 0⟩, some (formFrame ⟨.idle, 0, Quad.all 0, .none, 0⟩)⟩ })

/-- R9, R12, R16, R22, R27, R28, R30 to R32, R42, R123: a SAMPLE slot with marker NONE or PERF and no control
word in RUNNING: the oldest record leaves, and its marker and departing values are those of the departing
frame and the last output values; the new record, with the next serial, the position before the count and
the active bank, stands at the newest end; what names the others stands. After an admission in PRIMING that
fills the ring to L_eff, the stream turns RUNNING with STREAM_STATE, and else it stays as it is. -/
def Obligations.RunningSlotMovesTheRing : Prop :=
  (∀ (s : State) (f : LinkFrame), s.serving = true → StreamKept s → s.stream.state = .running →
    f.ftype = .sample → f.markerCode = 0 ∨ f.markerCode = 1 → f.kind = .none →
    ∃ (t : State) (r : FrameRecord) (rest : List FrameRecord) (new : FrameRecord) (w : CtlKind × Word),
      s.ring = r :: rest ∧ exec (.arrival (formFrame f)) s = .next t ∧
      t.ring.map recordKey = rest.map recordKey ++ [recordKey new] ∧
      (new.serial, new.marker, new.tag, new.offset, new.bank) =
        (s.stream.nextSerial, markerOf f.markerCode, s.film.tag, s.film.offset, s.tables.active) ∧
      t.stream = { s.stream with nextSerial := s.stream.nextSerial + 1 } ∧
      t.link = ⟨.good, 0, f.samples⟩ ∧
      t.film = ⟨s.film.tag, satInc s.film.offset, s.film.guard - (if s.film.guard = 0 then 0 else 1)⟩ ∧
      (t.out.slot.ftype, t.out.slot.marker, t.out.slot.samples) = (.sample, r.marker, t.lastOut) ∧
      (∀ ch, t.lastOut.get ch = departingValue s r ch) ∧
      t.out.departed = some (formFrame ⟨.sample, r.marker.code, t.lastOut, w.1, w.2⟩) ∧
      (t.power, t.store, t.tables.bank0, t.tables.bank1, t.tables.active, t.tables.pendingX) =
        (s.power, s.store, s.tables.bank0, s.tables.bank1, s.tables.active, s.tables.pendingX)) ∧
  (∀ s : State, checkRunning s =
    if s.stream.state = .priming ∧ s.ring.length = s.stream.lEff then
      withEvent .streamState none (some 2) { s with stream := { s.stream with state := .running } }
    else s)

/-- R3, R6, R9, R10, R12, R63: a BAD slot, or an IDLE one without a control word (a dropout), in PRIMING that
neither fills the ring nor loses the link: it counts, and a held record with marker NONE and LINK on every
active channel is admitted; the last accepted samples stand, and an IDLE frame departs. In a bypass, with no
context open and no value upset (log entry 16), each active channel stores its last accepted sample. In every
mode each active channel takes the NO_ADAPT flags of the guard and of the tracker. -/
def Obligations.BadSlotAdmitsHeldRecord : Prop :=
  ∀ (s : State) (bits : BitVec 127), s.serving = true →
    parseFrame bits = none ∨ (∃ f, parseFrame bits = some f ∧ f.ftype = .idle ∧ f.kind = .none) →
    s.stream.state = .priming → s.ring.length + 1 < s.stream.lEff → s.link.badCount < 255 →
    let lost := (parseFrame bits).isNone
    let marked := (parseFrame bits).any (fun f => f.markerCode != 0)
    let active := fun ch => inMask (setting s s.tables.active (.stream .channelMask)) ch
    let guarded : Bool := s.film.guard != 0
    let locked : Bool := s.tracker.state == .locked &&
      (satInc s.tracker.since).toNat != s.tracker.period + s.tracker.period / 8
    ∃ (t : State) (new : FrameRecord) (w : CtlKind × Word), exec (.arrival bits) s = .next t ∧
      t.ring.getLast? = some new ∧
      t.ring.map recordKey = s.ring.map recordKey ++ [recordKey new] ∧
      (new.serial, new.marker, new.tag, new.offset, new.bank, new.processed) =
        (s.stream.nextSerial, .none, s.film.tag, s.film.offset, s.tables.active, s.fault.mode == .normal) ∧
      (∀ ch, (new.entries.get ch).flags.link = active ch) ∧
      (∀ ch, active ch = true → ((new.entries.get ch).flags.noAdaptP, (new.entries.get ch).flags.noAdaptM) =
        (guarded || !locked, guarded)) ∧
      (s.fault.mode ≠ .normal → NoUpset s → (∀ ch, (s.det.get ch).ctx = none) → ∀ ch,
        (new.entries.get ch).cell = freshCell (if active ch then s.link.lastAccepted.get ch else 0)) ∧
      t.stream = { s.stream with nextSerial := s.stream.nextSerial + 1 } ∧
      t.link = { s.link with badCount := s.link.badCount + 1 } ∧
      t.counters.badFrame = (if lost then satInc s.counters.badFrame else s.counters.badFrame) ∧
      t.counters.dropout = (if lost then s.counters.dropout else satInc s.counters.dropout) ∧
      t.counters.markerError =
        (if marked then satInc s.counters.markerError else s.counters.markerError) ∧
      t.out = ⟨⟨.idle, .none, Quad.all 0⟩, some (formFrame ⟨.idle, 0, Quad.all 0, w.1, w.2⟩)⟩ ∧ t.film.tag = s.film.tag ∧
      (t.power, t.store, t.tables.bank0, t.tables.bank1, t.tables.active, t.tables.pendingX) =
        (s.power, s.store, s.tables.bank0, s.tables.bank1, s.tables.active, s.tables.pendingX)

/-- R9, R10, R28, R56, R57, R59, R60, R63: the record admitted in NORMAL with marker NONE from samples, or, for a
held record, from the last accepted samples, with sound tables and templates, no value upset (log entry 16),
no channel click-enabled and no context open: each active channel stores its input less the enabled
templates' bins at its phases, saturated, with fresh parity, and takes the flags LINK and NO_ADAPT of its
admission (R63: the guard before it is counted, the tracker after it has taken the record) and no other; each
saturated channel counts one clip, and no other counter counts; an inactive channel stores nothing. -/
def Obligations.AdmissionSubtractsTemplates : Prop :=
  ∀ (s : State) (stamp : BitVec 16) (samples : Option (Quad Sample)), SoundTables s → SoundCells s →
    NoUpset s → s.fault.mode = .normal → s.work = ⟨false, false⟩ →
    (∀ ch, (s.det.get ch).ctx = none ∧ setting s s.tables.active (.chan ch .clickEnable) = 0) →
    let a := s.tables.active
    let x := match samples with
      | some x => x
      | none => s.link.lastAccepted
    let pb := fun ch => BitVec.ofNat 6 (s.canc.perfPhase.get ch * 64 / s.tracker.period)
    let mb := fun ch => BitVec.ofNat 6 (s.canc.mainsPhase.get ch * 64 / s.canc.mainsPeriod)
    let tp := fun ch => if setting s a (.chan ch .perfEnable) = 0 then 0
      else (binCell s.canc ch .perf (pb ch)).val.toInt
    let tm := fun ch => if setting s a (.chan ch .mainsEnable) = 0 then 0
      else (binCell s.canc ch .mains (mb ch)).val.toInt
    let active := fun ch => inMask (setting s a (.stream .channelMask)) ch
    let difference := fun ch => (x.get ch).toInt - tp ch - tm ch
    let guarded : Bool := s.film.guard != 0
    let locked : Bool := s.tracker.state == .locked &&
      (satInc s.tracker.since).toNat != s.tracker.period + s.tracker.period / 8
    ∃ new : FrameRecord, (admitRecord .none stamp samples s).ring = s.ring ++ [new] ∧
      (admitRecord .none stamp samples s).link = { s.link with lastAccepted := x } ∧
      (new.serial, new.marker, new.tag, new.offset, new.bank, new.processed) =
        (s.stream.nextSerial, .none, s.film.tag, stamp, a, true) ∧
      (∀ ch, active ch = true →
        (new.entries.get ch).cell = freshCell (BitVec.ofInt 24
          (max (-8388608) (min 8388607 (difference ch)))) ∧
        (new.entries.get ch).flags =
          ⟨false, false, false, samples.isNone, false, guarded || !locked, guarded⟩ ∧
        (new.entries.get ch).perfBin = pb ch ∧ (new.entries.get ch).mainsBin = mb ch) ∧
      (∀ ch, active ch = false → new.entries.get ch = inactiveEntry) ∧
      (admitRecord .none stamp samples s).counters = { s.counters with
        subClip := ([Channel.ch0, .ch1, .ch2, .ch3].filter
          (fun ch => active ch && decide (difference ch < -8388608 ∨ 8388607 < difference ch))).foldl
            (fun n _ => satInc n) s.counters.subClip }

/-- R36, R38, R41, R43, R51, R81: what a delivered FRAME, REEL_START or SPLICE does where no exchange waits
for it and the fields it reads are sound. -/
def Obligations.MarkersMoveTheFilmPosition : Prop :=
  ∀ s : State,
    let a := s.tables.active
    (s.tables.pendingX ≠ some .nextFrame → ∀ m, m = .frame ∨ m = .framePerf →
      let u : State := { s with film := { s.film with tag := s.film.tag + 1, offset := 0 } }
      deliverMarker m s =
        if s.film.tag = BitVec.allOnes 24 then withEvent .frameTagWrap none none u else u) ∧
    (fieldOk (storedField s a (.stream .tagClear)) = true →
      deliverMarker .reelStart s =
        if setting s a (.stream .tagClear) = 0 then s
        else { s with film := { s.film with tag := 0, offset := 0 } }) ∧
    (s.tables.pendingX ≠ some .nextSplice → SoundTables s →
      deliverMarker .splice s = withEvent .splice none none { s with
        film := { s.film with guard := BitVec.ofNat 16 (setting s a (.stream .spliceGuard)) }
        tracker := ⟨.acquire, s.tracker.period, 0, 0, false⟩
        det := Quad.build (fun ch =>
          if inMask (setting s a (.stream .channelMask)) ch then
            { s.det.get ch with spliceCount := setting s a (.stream .spliceLen) }
          else s.det.get ch) })

/-! ### Stages -/

/-- R61, R64 to R67, R176: adaptation. One engine adapts from a value, its shift and its bin sound: the bin
takes the sum, clamped; no other bin, phase or period changes. Within range nothing else changes; outside it a
TEMPLATE_SATURATION with the capture record empty and the policy REPORT is captured and raises FAULT. An engine
adapts exactly where R65 admits it. And, with sound tables, the release of the oldest record gives every
template bin its new value: the holds are those of the state at the release, and a failing bin counts as 0. -/
def Obligations.AdaptationUpdatesOneBin : Prop :=
  (∀ (s : State) (bank : BankId) (ch : Channel) (e : Engine) (b : BitVec 6) (v : Sample),
    let field : FieldRef := match e with
      | .perf => .chan ch .perfShift
      | .mains => .chan ch .mainsShift
    fieldOk (storedField s bank field) = true → cellOk (binCell s.canc ch e b) = true →
    let sum := (binCell s.canc ch e b).val.toInt + v.toInt / (2 ^ setting s bank field : Int)
    let t := adaptBin bank ch e b v s
    (∀ (ch' : Channel) (e' : Engine) (b' : BitVec 6), binCell t.canc ch' e' b' =
      if ch' = ch ∧ e' = e ∧ b' = b then freshCell (BitVec.ofInt 24 (max (-8388608) (min 8388607 sum)))
      else binCell s.canc ch' e' b') ∧
    (t.canc.perfPhase, t.canc.mainsPhase, t.canc.mainsPeriod) =
      (s.canc.perfPhase, s.canc.mainsPhase, s.canc.mainsPeriod) ∧
    (-8388608 ≤ sum → sum ≤ 8388607 → t = { s with canc := t.canc }) ∧
    (sum < -8388608 ∨ 8388607 < sum → s.fault.capture = none →
      fieldOk (storedField s s.tables.active (.stream .policyTemplate)) = true →
      setting s s.tables.active (.stream .policyTemplate) = 0 →
      t = withEvent .fault (some ch) (some (match e with | .perf => 3 | .mains => 5)) { s with
        canc := t.canc
        fault := { s.fault with capture := some ⟨.templateSaturation, some ch, some e, s.film.tag,
          s.film.offset, s.stream.state, s.fault.mode, s.tables.active, s.fault.double⟩ } })) ∧
  (∀ (s : State) (r : FrameRecord) (selected failed : Bool) (hold : HoldSet) (v : Sample) (ch : Channel)
    (e : Engine),
    let en := r.entries.get ch
    let f := en.flags
    adaptEngine r selected hold failed v ch e s =
      if r.processed = true ∧ selected = true ∧ failed = false ∧
        (f.flagged, f.repaired, f.held, f.link, f.memory) = (false, false, false, false, false) ∧
        (match e with | .perf => f.noAdaptP | .mains => f.noAdaptM) = false ∧
        hold = ⟨false, false, false, false, false⟩
      then adaptBin r.bank ch e (match e with | .perf => en.perfBin | .mains => en.mainsBin) v s else s) ∧
  (∀ (s : State) (r : FrameRecord) (rest : List FrameRecord), s.ring = r :: rest → SoundTables s →
    let t := release s
    (t.canc.perfPhase, t.canc.mainsPhase, t.canc.mainsPeriod) =
      (s.canc.perfPhase, s.canc.mainsPhase, s.canc.mainsPeriod) ∧
    ∀ (ch : Channel) (e : Engine) (b : BitVec 6),
      let en := r.entries.get ch
      let f := en.flags
      let enable : FieldRef := match e with
        | .perf => .chan ch .perfEnable
        | .mains => .chan ch .mainsEnable
      let shift : FieldRef := match e with
        | .perf => .chan ch .perfShift
        | .mains => .chan ch .mainsShift
      let old := binCell s.canc ch e b
      let adapted := r.processed = true ∧ inMask (setting s r.bank (.stream .channelMask)) ch = true ∧
        cellOk en.cell = true ∧
        (f.flagged, f.repaired, f.held, f.link, f.memory) = (false, false, false, false, false) ∧
        (match e with | .perf => f.noAdaptP | .mains => f.noAdaptM) = false ∧
        setting s r.bank enable ≠ 0 ∧ s.film.guard = 0 ∧ (e = .perf → s.tracker.state = .locked) ∧
        s.fault.mode = .normal ∧ (s.stream.state = .priming ∨ s.stream.state = .running)
      binCell t.canc ch e b =
        if adapted ∧ b = (match e with | .perf => en.perfBin | .mains => en.mainsBin) then
          freshCell (BitVec.ofInt 24 (max (-8388608) (min 8388607
            ((if cellOk old then old.val.toInt else 0) + en.cell.val.toInt / (2 ^ setting s r.bank shift : Int)))))
        else old)

/-- R172: the event queue takes a raising: masked, with a full queue, with room, and with room after
losses. -/
def Obligations.RaisingIsTakenInOrder : Prop :=
  ∀ (r : EventRecord) (e : Events),
    let seen := e.seen ||| (1#32 <<< (kindNum r.kind).val)
    let masked := e.mask.getLsbD (kindNum r.kind).val
    let lostRecord : EventRecord := ⟨.eventsLost, none, r.tag, r.offset, some e.lost⟩
    (masked = true → takeRaising r e =
      { e with seen := seen, kept := e.kept.set (kindNum r.kind) (some r) }) ∧
    (masked = false → 32 ≤ e.queue.length → takeRaising r e = { e with seen := seen, lost := satInc e.lost }) ∧
    (masked = false → e.queue.length < 32 → e.lost = 0 →
      takeRaising r e = { e with seen := seen, queue := e.queue ++ [r] }) ∧
    (masked = false → e.queue.length < 32 → e.lost ≠ 0 → e.mask.getLsbD 15 = true →
      takeRaising r e = { e with
        seen := seen ||| (1#32 <<< 15), lost := 0, kept := e.kept.set 15 (some lostRecord)
        queue := e.queue ++ [r] }) ∧
    (masked = false → e.queue.length < 31 → e.lost ≠ 0 → e.mask.getLsbD 15 = false →
      takeRaising r e = { e with
        seen := seen ||| (1#32 <<< 15), lost := 0, queue := e.queue ++ [lostRecord, r] }) ∧
    (masked = false → e.queue.length = 31 → e.lost ≠ 0 → e.mask.getLsbD 15 = false →
      takeRaising r e = { e with
        seen := seen ||| (1#32 <<< 15), lost := 1, queue := e.queue ++ [lostRecord] })

/-- R150, R151, R176: a stage's read of a bank's field: a sound field changes nothing; a failing one gives
its default, and, the first time for its bank, sets the table-fault flag and hands on a TABLE_MEMORY fault,
here with the capture record empty and the policy REPORT. -/
def Obligations.FailingReadIsReportedOnce : Prop :=
  ∀ (s : State) (b : BankId) (r : FieldRef),
    (fieldOk (storedField s b r) = true →
      note b r s = s ∧ setting s b r = (storedField s b r).val.toNat) ∧
    (fieldOk (storedField s b r) = false → setting s b r = (fieldSpec r).dflt) ∧
    (fieldOk (storedField s b r) = false → tableFault s.tables b = true → note b r s = s) ∧
    (fieldOk (storedField s b r) = false → tableFault s.tables b = false → s.fault.capture = none →
      fieldOk (storedField s s.tables.active (.stream .policyTable)) = true →
      setting s s.tables.active (.stream .policyTable) = 0 →
      let ch := match r with
        | .stream _ => none
        | .chan ch _ => some ch
        | .gain ch _ => some ch
      note b r s = withEvent .fault ch (some 0) { s with
        tables := withTableFault s.tables b true
        fault := { s.fault with capture := some ⟨.tableMemory, ch, none, s.film.tag, s.film.offset,
          s.stream.state, s.fault.mode, s.tables.active, s.fault.double⟩ } })

/-- R125 to R129: one hiss step with F at least 1 and gains up to 4,096: the new Lb, the high band, the
envelope under the shift that its rise or fall chooses, the gain index as the bit length of floor(V / F) up
to 15, the gain moved toward that entry, and the output; each new value lies between the old one and its
target, and the output between the new Lb and the input. -/
def Obligations.HissStepStaysBetween : Prop :=
  ∀ (c : HissSettings) (h : Hiss) (y : Int), h.gain ≤ 4096 → (∀ i : Fin 16, c.gtab[i] ≤ 4096) →
    1 ≤ c.floorF →
    let n := hissAfter c h y
    let high := y - n.low
    let absH := high.natAbs
    let shift := if h.env < absH then c.att else c.rel
    let i := gainSlot n.env c.floorF
    let z := hissValue c h y
    n.low = h.low + (y - h.low) / (2 ^ c.split : Int) ∧
    (n.env : Int) = h.env + ((absH : Int) - h.env) / (2 ^ shift : Int) ∧
    (n.gain : Int) = h.gain + ((c.gtab[i] : Int) - h.gain) / (2 ^ c.gainShift : Int) ∧
    z = n.low + high * n.gain / 4096 ∧
    (i = 0 ↔ n.env < c.floorF) ∧
    (0 < i.val → i.val < 15 → 2 ^ (i.val - 1) * c.floorF ≤ n.env ∧ n.env < 2 ^ i.val * c.floorF) ∧
    (i = 15 ↔ 16384 * c.floorF ≤ n.env) ∧
    (min h.low y ≤ n.low ∧ n.low ≤ max h.low y) ∧
    (min h.env absH ≤ n.env ∧ n.env ≤ max h.env absH) ∧
    (min h.gain c.gtab[i] ≤ n.gain ∧ n.gain ≤ max h.gain c.gtab[i]) ∧
    (min n.low y ≤ z ∧ z ≤ max n.low y)

/-- R102: every interpolated value lies between its two anchors inclusive, so it needs no saturation; with
equal anchors it is that value; the extremes of R102 give 0. -/
def Obligations.InterpolationNeedsNoSaturation : Prop :=
  (∀ (a b : Int) (g i : Nat), 1 ≤ i → i ≤ g →
    min a b ≤ interpolate a b g i ∧ interpolate a b g i ≤ max a b ∧
    min 0 (b - a) ≤ interpolate a b g i - a ∧ interpolate a b g i - a ≤ max 0 (b - a) ∧
    2 * ((g : Int) + 1) * (interpolate a b g i - a) ≤ 2 * (b - a) * i + (g + 1) ∧
    2 * (b - a) * i + (g + 1) < 2 * ((g : Int) + 1) * (interpolate a b g i - a) + 2 * (g + 1)) ∧
  (∀ (a : Int) (g i : Nat), 1 ≤ i → i ≤ g → interpolate a a g i = a) ∧
  interpolate 8388607 (-8388608) 1 1 = 0

/-- R53: the mains period of the active bank, in COUPLED (0) and FREE mode; it stays within 16 to 16,383; the
defaults give 3,843 and 3,840; with sound tables its computation changes the canceller alone, so that a
clamp raises no fault and no event. -/
def Obligations.MainsPeriodOfTheActiveBank : Prop :=
  ∀ s : State,
    let a := s.tables.active
    (setting s a (.stream .mainsMode) = 0 → mainsPeriodOf s =
      max 16 (min 16383 (s.tracker.period * setting s a (.stream .mainsRatio) / 256))) ∧
    (setting s a (.stream .mainsMode) ≠ 0 → mainsPeriodOf s =
      max 16 (min 16383 (setting s a (.stream .mainsFreePeriod)))) ∧
    16 ≤ mainsPeriodOf s ∧ mainsPeriodOf s ≤ 16383 ∧
    (setting s a (.stream .mainsMode) = 0 → setting s a (.stream .mainsRatio) = 492 →
      s.tracker.period = 2000 → mainsPeriodOf s = 3843) ∧
    (setting s a (.stream .mainsMode) = 1 → setting s a (.stream .mainsFreePeriod) = 3840 →
      mainsPeriodOf s = 3840) ∧
    (SoundTables s → ∃ c : Canceller, recomputeMains s = { s with canc := c } ∧
      c.mainsPeriod = mainsPeriodOf s ∧ c.perfPhase = s.canc.perfPhase ∧
      (c.perfTpl, c.mainsTpl) = (s.canc.perfTpl, s.canc.mainsTpl))

/-! ### Resets, the supply and the profile store -/

/-- R14, R181, R183, R186, R187: the reset input and the supply. The assertion records what RESET_DONE will
report and ends an operation of the store; its release, and a power-up, make the hard reset's values and
begin the boot recall; the loss of the supply ends an operation and keeps the slots. What leaves an
unpowered part, and the banks' contents until the boot ends, are the model's choice (log entries 11, 12). -/
def Obligations.ResetInputAndSupply : Prop :=
  ∀ s : State,
    (s.power.resetInput = true → exec .hardReset s = .next s) ∧
    (s.power.supply = true → s.power.resetInput = false → exec .hardReset s = .next { s with
      power := ⟨true, true, .pin, s.stream.state, s.fault.mode⟩
      store := ⟨s.store.slots, .ready⟩ }) ∧
    (s.power.supply = true → s.power.resetInput = true → ∃ t, exec .hardResetRelease s = .next t ∧
      HardResetTaken s t ∧ t.power = { s.power with resetInput := false } ∧
      (t.tables.bank0, t.tables.bank1) = (s.tables.bank0, s.tables.bank1)) ∧
    (s.power.supply = false → s.power.resetInput = false → ∃ t, exec .powerUp s = .next t ∧
      HardResetTaken s t ∧ t.power = ⟨true, false, .power, .idle, .normal⟩ ∧
      (t.tables.bank0, t.tables.bank1) = (s.tables.bank0, s.tables.bank1)) ∧
    (exec .powerDown s = .next { s with
      power := { s.power with supply := false }
      store := ⟨s.store.slots, .ready⟩
      out := ⟨⟨.idle, .none, Quad.all 0⟩, none⟩ })

/-- R34, R53, R93, R153, R181, R187: the end of a boot recall: both banks take slot 0's image, clamped, where
it is VALID and its check matches, and else the defaults; L_eff, Pm and max_len_eff follow bank 0; a slot 0
whose check is wrong becomes INVALID; RESET_DONE reports the cause, the state before and the boot result. -/
def Obligations.BootRecallFillsBothBanks : Prop :=
  ∀ s : State, s.live = true → s.store.op = .booting →
    let x := s.store.slots.c0
    let good := x.valid = true ∧ imageCheck x.image = x.check
    let value := fun r : FieldRef =>
      if good then clampedTo r (x.image.field r) else BitVec.ofNat 32 (fieldSpec r).dflt
    let read := fun r : FieldRef => (value r).toNat
    let pm := max 16 (min 16383 (if read (.stream .mainsMode) = 0 then
      s.tracker.period * read (.stream .mainsRatio) / 256 else read (.stream .mainsFreePeriod)))
    let l := read (.stream .lookahead)
    let boot := if good then 1 else if x.valid then 3 else 2
    let cause := match s.power.cause with
      | .power => 0
      | .pin => 1
    ∃ t, exec .bootRecallDone s = .next t ∧
      t = { s with
        tables := t.tables, stream := { s.stream with lEff := l }, canc := t.canc, det := t.det
        store := t.store, events := t.events } ∧
      (∀ (b : BankId) (r : FieldRef), storedField t b r = freshField (value r)) ∧
      (t.tables.active, t.tables.other, t.tables.pendingX) = (.b0, .standby, none) ∧
      (t.tables.fault0, t.tables.fault1) = (false, false) ∧
      t.canc.mainsPeriod = pm ∧ (t.canc.perfTpl, t.canc.mainsTpl) = (s.canc.perfTpl, s.canc.mainsTpl) ∧
      (∀ ch, t.det.get ch = { s.det.get ch with
        maxLenEff := min (read (.chan ch .maxLen)) (l - read (.chan ch .closeRun) - 2) }) ∧
      t.store.op = .ready ∧ (t.store.slots.c0.valid = true ↔ good) ∧
      (t.store.slots.c1, t.store.slots.c2, t.store.slots.c3) =
        (s.store.slots.c1, s.store.slots.c2, s.store.slots.c3) ∧
      t.events = takeRaising ⟨.resetDone, none, s.film.tag, s.film.offset,
        some (BitVec.ofNat 32 (cause + 4 * streamStateNum s.power.priorStream
          + 16 * modeNum s.power.priorMode + 64 * boot))⟩ s.events

/-- R184, R185: the completions of the store: the end of the erase, the end of a store (the slot VALID with
the copied image and check, STORE_DONE), and the end of a recall (the image copied into the standby bank
where its check matches, else the slot INVALID; RECALL_DONE). That the slots stand at the end of the erase,
and that an INVALID slot keeps its image, is the model's choice (log entry 13). -/
def Obligations.StoreOperationsComplete : Prop :=
  ∀ (s : State) (i : Channel), s.live = true →
    let x := s.store.slots.get i
    let b := s.tables.active.opposite
    (∀ img check, s.store.op = .erasing i img check →
      exec .storeEraseEnd s = .next { s with store := ⟨s.store.slots, .programming i img check⟩ }) ∧
    (∀ img check, s.store.op = .programming i img check →
      exec .storeDone s = .next (withEvent .storeDone none (some (BitVec.ofNat 32 (channelNum i)))
        { s with store := ⟨s.store.slots.set i ⟨true, img, check⟩, .ready⟩ })) ∧
    (s.store.op = .recalling i → imageCheck x.image = x.check → ∃ t, exec .recallDone s = .next t ∧
      t = withEvent .recallDone none (some (BitVec.ofNat 32 (channelNum i)))
        { s with store := ⟨s.store.slots, .ready⟩, tables := t.tables } ∧
      (∀ r : FieldRef, storedField t b r = freshField (clampedTo r (x.image.field r)) ∧
        storedField t s.tables.active r = storedField s s.tables.active r) ∧
      tableFault t.tables b = false ∧
      tableFault t.tables s.tables.active = tableFault s.tables s.tables.active ∧
      (t.tables.active, t.tables.other, t.tables.pendingX) = (s.tables.active, .standby, s.tables.pendingX)) ∧
    (s.store.op = .recalling i → imageCheck x.image ≠ x.check → exec .recallDone s =
      .next (withEvent .recallDone none (some (BitVec.ofNat 32 (channelNum i + 4)))
        { s with
          store := ⟨s.store.slots.set i { x with valid := false }, .ready⟩
          tables := { s.tables with other := .standby } }))

/-- R111, R166, R168, R170, R183: the words that carry a log entry, an event record and a fault capture
record hold their fields; bins packed in pairs; and the check of an image is the sum of the halves of its
fields in order. -/
def Obligations.RecordWordsCarryFields : Prop :=
  (∀ e : LogEntry, e.length ≤ 65535 → e.peak.getD 0 ≤ 33554430 →
    ∃ w0 w1 w2 w3 w4 w5 : Word, logEntryWords e = [w0, w1, w2, w3, w4, w5] ∧
      w0.extractLsb' 0 2 = BitVec.ofNat 2 (channelNum e.channel) ∧
      (w0.getLsbD 2, w0.getLsbD 3, w0.getLsbD 4, w0.getLsbD 5, w0.getLsbD 6) =
        (e.causes.detected, e.causes.link, e.causes.splice, e.causes.command, e.causes.memory) ∧
      w0.extractLsb' 7 2 = BitVec.ofNat 2 (outcomeNum e.outcome) ∧
      w0.getLsbD 9 = (e.bank == .b1) ∧ w0.getLsbD 10 = e.peak.isSome ∧ w0.extractLsb' 12 4 = 0 ∧
      (w2.extractLsb' 0 8 ++ w1 : BitVec 24) = e.tag ∧
      (w0.extractLsb' 11 1 ++ w2.extractLsb' 8 8 ++ w3 : BitVec (1 + 8 + 16)).toNat = e.peak.getD 0 ∧
      w4 = e.offset ∧ w5.toNat = e.length) ∧
  (∀ r : EventRecord, ∃ w0 : Word,
    eventWords r = [w0, r.tag.extractLsb' 0 16, 0#8 ++ r.tag.extractLsb' 16 8, r.offset,
      (r.param.getD 0).extractLsb' 0 16, (r.param.getD 0).extractLsb' 16 16] ∧
    w0.extractLsb' 0 5 = BitVec.ofNat 5 (kindNum r.kind).val ∧ w0.getLsbD 5 = r.channel.isSome ∧
    w0.extractLsb' 6 2 = BitVec.ofNat 2 ((r.channel.map channelNum).getD 0) ∧
    w0.getLsbD 8 = r.param.isSome ∧ w0.extractLsb' 9 7 = 0) ∧
  (∀ c : Capture, ∃ w0 : Word,
    captureWords c = [w0, c.tag.extractLsb' 0 16, 0#8 ++ c.tag.extractLsb' 16 8, c.offset] ∧
    w0.getLsbD 0 = (c.kind == .templateSaturation) ∧ w0.getLsbD 1 = c.channel.isSome ∧
    w0.extractLsb' 2 2 = BitVec.ofNat 2 ((c.channel.map channelNum).getD 0) ∧
    w0.getLsbD 4 = c.engine.isSome ∧ w0.getLsbD 5 = (c.engine == some .mains) ∧
    w0.extractLsb' 6 2 = BitVec.ofNat 2 (streamStateNum c.stream) ∧
    w0.extractLsb' 8 2 = BitVec.ofNat 2 (modeNum c.mode) ∧
    w0.getLsbD 10 = (c.active == .b1) ∧ w0.getLsbD 11 = c.double ∧ w0.extractLsb' 12 4 = 0) ∧
  (∀ vs : List Sample,
    (packBins vs).length = 3 * (vs.length / 2) + 2 * (vs.length % 2) ∧
    (∀ m, 2 * m + 1 < vs.length → ∃ w0 w1 w2 : Word,
      (packBins vs)[3 * m]? = some w0 ∧ (packBins vs)[3 * m + 1]? = some w1 ∧
      (packBins vs)[3 * m + 2]? = some w2 ∧
      vs[2 * m]? = some (w1.extractLsb' 0 8 ++ w0 : BitVec 24) ∧
      vs[2 * m + 1]? = some (w1.extractLsb' 8 8 ++ w2 : BitVec 24)) ∧
    (∀ m, vs.length = 2 * m + 1 → ∃ w0 w1 : Word,
      (packBins vs)[3 * m]? = some w0 ∧ (packBins vs)[3 * m + 1]? = some w1 ∧
      vs[2 * m]? = some (w1.extractLsb' 0 8 ++ w0 : BitVec 24) ∧ w1.extractLsb' 8 8 = 0) ∧
    unpackBins (packBins vs) = vs) ∧
  (∀ t : TableSetOf (BitVec 32), imageCheck t =
    ((t.stream.toList ++ t.channel.c0.toList ++ t.channel.c1.toList ++ t.channel.c2.toList
      ++ t.channel.c3.toList ++ t.gain.c0.toList ++ t.gain.c1.toList ++ t.gain.c2.toList
      ++ t.gain.c3.toList).map (fun v => v.extractLsb' 0 16 + v.extractLsb' 16 16)).sum)
end

