-- ==== Sys2Proof/Laws/State.lean ====
section
/-! SUPPORT. What each update of the state changes and leaves: one lemma for each field and update. -/

namespace Sys2Proof.Machine

variable (s : State)

@[simp] theorem State.setPending_pending (x : List Instr) : (s.setPending x).pending = x := rfl
@[simp] theorem State.setPending_power (x : List Instr) : (s.setPending x).power = s.power := rfl
@[simp] theorem State.setPending_link (x : List Instr) : (s.setPending x).link = s.link := rfl
@[simp] theorem State.setPending_stream (x : List Instr) : (s.setPending x).stream = s.stream := rfl
@[simp] theorem State.setPending_ring (x : List Instr) : (s.setPending x).ring = s.ring := rfl
@[simp] theorem State.setPending_film (x : List Instr) : (s.setPending x).film = s.film := rfl
@[simp] theorem State.setPending_tracker (x : List Instr) : (s.setPending x).tracker = s.tracker := rfl
@[simp] theorem State.setPending_canc (x : List Instr) : (s.setPending x).canc = s.canc := rfl
@[simp] theorem State.setPending_det (x : List Instr) : (s.setPending x).det = s.det := rfl
@[simp] theorem State.setPending_lastOut (x : List Instr) : (s.setPending x).lastOut = s.lastOut := rfl
@[simp] theorem State.setPending_log (x : List Instr) : (s.setPending x).log = s.log := rfl
@[simp] theorem State.setPending_hiss (x : List Instr) : (s.setPending x).hiss = s.hiss := rfl
@[simp] theorem State.setPending_tables (x : List Instr) : (s.setPending x).tables = s.tables := rfl
@[simp] theorem State.setPending_cmd (x : List Instr) : (s.setPending x).cmd = s.cmd := rfl
@[simp] theorem State.setPending_tx (x : List Instr) : (s.setPending x).tx = s.tx := rfl
@[simp] theorem State.setPending_events (x : List Instr) : (s.setPending x).events = s.events := rfl
@[simp] theorem State.setPending_fault (x : List Instr) : (s.setPending x).fault = s.fault := rfl
@[simp] theorem State.setPending_store (x : List Instr) : (s.setPending x).store = s.store := rfl
@[simp] theorem State.setPending_counters (x : List Instr) : (s.setPending x).counters = s.counters := rfl
@[simp] theorem State.setPending_out (x : List Instr) : (s.setPending x).out = s.out := rfl
@[simp] theorem State.setPending_work (x : List Instr) : (s.setPending x).work = s.work := rfl
@[simp] theorem State.setPending_upset (x : List Instr) : (s.setPending x).upset = s.upset := rfl

@[simp] theorem State.setPower_pending (x : Power) : (s.setPower x).pending = s.pending := rfl
@[simp] theorem State.setPower_power (x : Power) : (s.setPower x).power = x := rfl
@[simp] theorem State.setPower_link (x : Power) : (s.setPower x).link = s.link := rfl
@[simp] theorem State.setPower_stream (x : Power) : (s.setPower x).stream = s.stream := rfl
@[simp] theorem State.setPower_ring (x : Power) : (s.setPower x).ring = s.ring := rfl
@[simp] theorem State.setPower_film (x : Power) : (s.setPower x).film = s.film := rfl
@[simp] theorem State.setPower_tracker (x : Power) : (s.setPower x).tracker = s.tracker := rfl
@[simp] theorem State.setPower_canc (x : Power) : (s.setPower x).canc = s.canc := rfl
@[simp] theorem State.setPower_det (x : Power) : (s.setPower x).det = s.det := rfl
@[simp] theorem State.setPower_lastOut (x : Power) : (s.setPower x).lastOut = s.lastOut := rfl
@[simp] theorem State.setPower_log (x : Power) : (s.setPower x).log = s.log := rfl
@[simp] theorem State.setPower_hiss (x : Power) : (s.setPower x).hiss = s.hiss := rfl
@[simp] theorem State.setPower_tables (x : Power) : (s.setPower x).tables = s.tables := rfl
@[simp] theorem State.setPower_cmd (x : Power) : (s.setPower x).cmd = s.cmd := rfl
@[simp] theorem State.setPower_tx (x : Power) : (s.setPower x).tx = s.tx := rfl
@[simp] theorem State.setPower_events (x : Power) : (s.setPower x).events = s.events := rfl
@[simp] theorem State.setPower_fault (x : Power) : (s.setPower x).fault = s.fault := rfl
@[simp] theorem State.setPower_store (x : Power) : (s.setPower x).store = s.store := rfl
@[simp] theorem State.setPower_counters (x : Power) : (s.setPower x).counters = s.counters := rfl
@[simp] theorem State.setPower_out (x : Power) : (s.setPower x).out = s.out := rfl
@[simp] theorem State.setPower_work (x : Power) : (s.setPower x).work = s.work := rfl
@[simp] theorem State.setPower_upset (x : Power) : (s.setPower x).upset = s.upset := rfl

@[simp] theorem State.setLink_pending (x : Link) : (s.setLink x).pending = s.pending := rfl
@[simp] theorem State.setLink_power (x : Link) : (s.setLink x).power = s.power := rfl
@[simp] theorem State.setLink_link (x : Link) : (s.setLink x).link = x := rfl
@[simp] theorem State.setLink_stream (x : Link) : (s.setLink x).stream = s.stream := rfl
@[simp] theorem State.setLink_ring (x : Link) : (s.setLink x).ring = s.ring := rfl
@[simp] theorem State.setLink_film (x : Link) : (s.setLink x).film = s.film := rfl
@[simp] theorem State.setLink_tracker (x : Link) : (s.setLink x).tracker = s.tracker := rfl
@[simp] theorem State.setLink_canc (x : Link) : (s.setLink x).canc = s.canc := rfl
@[simp] theorem State.setLink_det (x : Link) : (s.setLink x).det = s.det := rfl
@[simp] theorem State.setLink_lastOut (x : Link) : (s.setLink x).lastOut = s.lastOut := rfl
@[simp] theorem State.setLink_log (x : Link) : (s.setLink x).log = s.log := rfl
@[simp] theorem State.setLink_hiss (x : Link) : (s.setLink x).hiss = s.hiss := rfl
@[simp] theorem State.setLink_tables (x : Link) : (s.setLink x).tables = s.tables := rfl
@[simp] theorem State.setLink_cmd (x : Link) : (s.setLink x).cmd = s.cmd := rfl
@[simp] theorem State.setLink_tx (x : Link) : (s.setLink x).tx = s.tx := rfl
@[simp] theorem State.setLink_events (x : Link) : (s.setLink x).events = s.events := rfl
@[simp] theorem State.setLink_fault (x : Link) : (s.setLink x).fault = s.fault := rfl
@[simp] theorem State.setLink_store (x : Link) : (s.setLink x).store = s.store := rfl
@[simp] theorem State.setLink_counters (x : Link) : (s.setLink x).counters = s.counters := rfl
@[simp] theorem State.setLink_out (x : Link) : (s.setLink x).out = s.out := rfl
@[simp] theorem State.setLink_work (x : Link) : (s.setLink x).work = s.work := rfl
@[simp] theorem State.setLink_upset (x : Link) : (s.setLink x).upset = s.upset := rfl

@[simp] theorem State.setStream_pending (x : Stream) : (s.setStream x).pending = s.pending := rfl
@[simp] theorem State.setStream_power (x : Stream) : (s.setStream x).power = s.power := rfl
@[simp] theorem State.setStream_link (x : Stream) : (s.setStream x).link = s.link := rfl
@[simp] theorem State.setStream_stream (x : Stream) : (s.setStream x).stream = x := rfl
@[simp] theorem State.setStream_ring (x : Stream) : (s.setStream x).ring = s.ring := rfl
@[simp] theorem State.setStream_film (x : Stream) : (s.setStream x).film = s.film := rfl
@[simp] theorem State.setStream_tracker (x : Stream) : (s.setStream x).tracker = s.tracker := rfl
@[simp] theorem State.setStream_canc (x : Stream) : (s.setStream x).canc = s.canc := rfl
@[simp] theorem State.setStream_det (x : Stream) : (s.setStream x).det = s.det := rfl
@[simp] theorem State.setStream_lastOut (x : Stream) : (s.setStream x).lastOut = s.lastOut := rfl
@[simp] theorem State.setStream_log (x : Stream) : (s.setStream x).log = s.log := rfl
@[simp] theorem State.setStream_hiss (x : Stream) : (s.setStream x).hiss = s.hiss := rfl
@[simp] theorem State.setStream_tables (x : Stream) : (s.setStream x).tables = s.tables := rfl
@[simp] theorem State.setStream_cmd (x : Stream) : (s.setStream x).cmd = s.cmd := rfl
@[simp] theorem State.setStream_tx (x : Stream) : (s.setStream x).tx = s.tx := rfl
@[simp] theorem State.setStream_events (x : Stream) : (s.setStream x).events = s.events := rfl
@[simp] theorem State.setStream_fault (x : Stream) : (s.setStream x).fault = s.fault := rfl
@[simp] theorem State.setStream_store (x : Stream) : (s.setStream x).store = s.store := rfl
@[simp] theorem State.setStream_counters (x : Stream) : (s.setStream x).counters = s.counters := rfl
@[simp] theorem State.setStream_out (x : Stream) : (s.setStream x).out = s.out := rfl
@[simp] theorem State.setStream_work (x : Stream) : (s.setStream x).work = s.work := rfl
@[simp] theorem State.setStream_upset (x : Stream) : (s.setStream x).upset = s.upset := rfl

@[simp] theorem State.setRing_pending (x : List FrameRecord) : (s.setRing x).pending = s.pending := rfl
@[simp] theorem State.setRing_power (x : List FrameRecord) : (s.setRing x).power = s.power := rfl
@[simp] theorem State.setRing_link (x : List FrameRecord) : (s.setRing x).link = s.link := rfl
@[simp] theorem State.setRing_stream (x : List FrameRecord) : (s.setRing x).stream = s.stream := rfl
@[simp] theorem State.setRing_ring (x : List FrameRecord) : (s.setRing x).ring = x := rfl
@[simp] theorem State.setRing_film (x : List FrameRecord) : (s.setRing x).film = s.film := rfl
@[simp] theorem State.setRing_tracker (x : List FrameRecord) : (s.setRing x).tracker = s.tracker := rfl
@[simp] theorem State.setRing_canc (x : List FrameRecord) : (s.setRing x).canc = s.canc := rfl
@[simp] theorem State.setRing_det (x : List FrameRecord) : (s.setRing x).det = s.det := rfl
@[simp] theorem State.setRing_lastOut (x : List FrameRecord) : (s.setRing x).lastOut = s.lastOut := rfl
@[simp] theorem State.setRing_log (x : List FrameRecord) : (s.setRing x).log = s.log := rfl
@[simp] theorem State.setRing_hiss (x : List FrameRecord) : (s.setRing x).hiss = s.hiss := rfl
@[simp] theorem State.setRing_tables (x : List FrameRecord) : (s.setRing x).tables = s.tables := rfl
@[simp] theorem State.setRing_cmd (x : List FrameRecord) : (s.setRing x).cmd = s.cmd := rfl
@[simp] theorem State.setRing_tx (x : List FrameRecord) : (s.setRing x).tx = s.tx := rfl
@[simp] theorem State.setRing_events (x : List FrameRecord) : (s.setRing x).events = s.events := rfl
@[simp] theorem State.setRing_fault (x : List FrameRecord) : (s.setRing x).fault = s.fault := rfl
@[simp] theorem State.setRing_store (x : List FrameRecord) : (s.setRing x).store = s.store := rfl
@[simp] theorem State.setRing_counters (x : List FrameRecord) : (s.setRing x).counters = s.counters := rfl
@[simp] theorem State.setRing_out (x : List FrameRecord) : (s.setRing x).out = s.out := rfl
@[simp] theorem State.setRing_work (x : List FrameRecord) : (s.setRing x).work = s.work := rfl
@[simp] theorem State.setRing_upset (x : List FrameRecord) : (s.setRing x).upset = s.upset := rfl

@[simp] theorem State.setFilm_pending (x : Film) : (s.setFilm x).pending = s.pending := rfl
@[simp] theorem State.setFilm_power (x : Film) : (s.setFilm x).power = s.power := rfl
@[simp] theorem State.setFilm_link (x : Film) : (s.setFilm x).link = s.link := rfl
@[simp] theorem State.setFilm_stream (x : Film) : (s.setFilm x).stream = s.stream := rfl
@[simp] theorem State.setFilm_ring (x : Film) : (s.setFilm x).ring = s.ring := rfl
@[simp] theorem State.setFilm_film (x : Film) : (s.setFilm x).film = x := rfl
@[simp] theorem State.setFilm_tracker (x : Film) : (s.setFilm x).tracker = s.tracker := rfl
@[simp] theorem State.setFilm_canc (x : Film) : (s.setFilm x).canc = s.canc := rfl
@[simp] theorem State.setFilm_det (x : Film) : (s.setFilm x).det = s.det := rfl
@[simp] theorem State.setFilm_lastOut (x : Film) : (s.setFilm x).lastOut = s.lastOut := rfl
@[simp] theorem State.setFilm_log (x : Film) : (s.setFilm x).log = s.log := rfl
@[simp] theorem State.setFilm_hiss (x : Film) : (s.setFilm x).hiss = s.hiss := rfl
@[simp] theorem State.setFilm_tables (x : Film) : (s.setFilm x).tables = s.tables := rfl
@[simp] theorem State.setFilm_cmd (x : Film) : (s.setFilm x).cmd = s.cmd := rfl
@[simp] theorem State.setFilm_tx (x : Film) : (s.setFilm x).tx = s.tx := rfl
@[simp] theorem State.setFilm_events (x : Film) : (s.setFilm x).events = s.events := rfl
@[simp] theorem State.setFilm_fault (x : Film) : (s.setFilm x).fault = s.fault := rfl
@[simp] theorem State.setFilm_store (x : Film) : (s.setFilm x).store = s.store := rfl
@[simp] theorem State.setFilm_counters (x : Film) : (s.setFilm x).counters = s.counters := rfl
@[simp] theorem State.setFilm_out (x : Film) : (s.setFilm x).out = s.out := rfl
@[simp] theorem State.setFilm_work (x : Film) : (s.setFilm x).work = s.work := rfl
@[simp] theorem State.setFilm_upset (x : Film) : (s.setFilm x).upset = s.upset := rfl

@[simp] theorem State.setTracker_pending (x : Tracker) : (s.setTracker x).pending = s.pending := rfl
@[simp] theorem State.setTracker_power (x : Tracker) : (s.setTracker x).power = s.power := rfl
@[simp] theorem State.setTracker_link (x : Tracker) : (s.setTracker x).link = s.link := rfl
@[simp] theorem State.setTracker_stream (x : Tracker) : (s.setTracker x).stream = s.stream := rfl
@[simp] theorem State.setTracker_ring (x : Tracker) : (s.setTracker x).ring = s.ring := rfl
@[simp] theorem State.setTracker_film (x : Tracker) : (s.setTracker x).film = s.film := rfl
@[simp] theorem State.setTracker_tracker (x : Tracker) : (s.setTracker x).tracker = x := rfl
@[simp] theorem State.setTracker_canc (x : Tracker) : (s.setTracker x).canc = s.canc := rfl
@[simp] theorem State.setTracker_det (x : Tracker) : (s.setTracker x).det = s.det := rfl
@[simp] theorem State.setTracker_lastOut (x : Tracker) : (s.setTracker x).lastOut = s.lastOut := rfl
@[simp] theorem State.setTracker_log (x : Tracker) : (s.setTracker x).log = s.log := rfl
@[simp] theorem State.setTracker_hiss (x : Tracker) : (s.setTracker x).hiss = s.hiss := rfl
@[simp] theorem State.setTracker_tables (x : Tracker) : (s.setTracker x).tables = s.tables := rfl
@[simp] theorem State.setTracker_cmd (x : Tracker) : (s.setTracker x).cmd = s.cmd := rfl
@[simp] theorem State.setTracker_tx (x : Tracker) : (s.setTracker x).tx = s.tx := rfl
@[simp] theorem State.setTracker_events (x : Tracker) : (s.setTracker x).events = s.events := rfl
@[simp] theorem State.setTracker_fault (x : Tracker) : (s.setTracker x).fault = s.fault := rfl
@[simp] theorem State.setTracker_store (x : Tracker) : (s.setTracker x).store = s.store := rfl
@[simp] theorem State.setTracker_counters (x : Tracker) : (s.setTracker x).counters = s.counters := rfl
@[simp] theorem State.setTracker_out (x : Tracker) : (s.setTracker x).out = s.out := rfl
@[simp] theorem State.setTracker_work (x : Tracker) : (s.setTracker x).work = s.work := rfl
@[simp] theorem State.setTracker_upset (x : Tracker) : (s.setTracker x).upset = s.upset := rfl

@[simp] theorem State.setCanc_pending (x : Canceller) : (s.setCanc x).pending = s.pending := rfl
@[simp] theorem State.setCanc_power (x : Canceller) : (s.setCanc x).power = s.power := rfl
@[simp] theorem State.setCanc_link (x : Canceller) : (s.setCanc x).link = s.link := rfl
@[simp] theorem State.setCanc_stream (x : Canceller) : (s.setCanc x).stream = s.stream := rfl
@[simp] theorem State.setCanc_ring (x : Canceller) : (s.setCanc x).ring = s.ring := rfl
@[simp] theorem State.setCanc_film (x : Canceller) : (s.setCanc x).film = s.film := rfl
@[simp] theorem State.setCanc_tracker (x : Canceller) : (s.setCanc x).tracker = s.tracker := rfl
@[simp] theorem State.setCanc_canc (x : Canceller) : (s.setCanc x).canc = x := rfl
@[simp] theorem State.setCanc_det (x : Canceller) : (s.setCanc x).det = s.det := rfl
@[simp] theorem State.setCanc_lastOut (x : Canceller) : (s.setCanc x).lastOut = s.lastOut := rfl
@[simp] theorem State.setCanc_log (x : Canceller) : (s.setCanc x).log = s.log := rfl
@[simp] theorem State.setCanc_hiss (x : Canceller) : (s.setCanc x).hiss = s.hiss := rfl
@[simp] theorem State.setCanc_tables (x : Canceller) : (s.setCanc x).tables = s.tables := rfl
@[simp] theorem State.setCanc_cmd (x : Canceller) : (s.setCanc x).cmd = s.cmd := rfl
@[simp] theorem State.setCanc_tx (x : Canceller) : (s.setCanc x).tx = s.tx := rfl
@[simp] theorem State.setCanc_events (x : Canceller) : (s.setCanc x).events = s.events := rfl
@[simp] theorem State.setCanc_fault (x : Canceller) : (s.setCanc x).fault = s.fault := rfl
@[simp] theorem State.setCanc_store (x : Canceller) : (s.setCanc x).store = s.store := rfl
@[simp] theorem State.setCanc_counters (x : Canceller) : (s.setCanc x).counters = s.counters := rfl
@[simp] theorem State.setCanc_out (x : Canceller) : (s.setCanc x).out = s.out := rfl
@[simp] theorem State.setCanc_work (x : Canceller) : (s.setCanc x).work = s.work := rfl
@[simp] theorem State.setCanc_upset (x : Canceller) : (s.setCanc x).upset = s.upset := rfl

@[simp] theorem State.setDet_pending (x : Quad Detector) : (s.setDet x).pending = s.pending := rfl
@[simp] theorem State.setDet_power (x : Quad Detector) : (s.setDet x).power = s.power := rfl
@[simp] theorem State.setDet_link (x : Quad Detector) : (s.setDet x).link = s.link := rfl
@[simp] theorem State.setDet_stream (x : Quad Detector) : (s.setDet x).stream = s.stream := rfl
@[simp] theorem State.setDet_ring (x : Quad Detector) : (s.setDet x).ring = s.ring := rfl
@[simp] theorem State.setDet_film (x : Quad Detector) : (s.setDet x).film = s.film := rfl
@[simp] theorem State.setDet_tracker (x : Quad Detector) : (s.setDet x).tracker = s.tracker := rfl
@[simp] theorem State.setDet_canc (x : Quad Detector) : (s.setDet x).canc = s.canc := rfl
@[simp] theorem State.setDet_det (x : Quad Detector) : (s.setDet x).det = x := rfl
@[simp] theorem State.setDet_lastOut (x : Quad Detector) : (s.setDet x).lastOut = s.lastOut := rfl
@[simp] theorem State.setDet_log (x : Quad Detector) : (s.setDet x).log = s.log := rfl
@[simp] theorem State.setDet_hiss (x : Quad Detector) : (s.setDet x).hiss = s.hiss := rfl
@[simp] theorem State.setDet_tables (x : Quad Detector) : (s.setDet x).tables = s.tables := rfl
@[simp] theorem State.setDet_cmd (x : Quad Detector) : (s.setDet x).cmd = s.cmd := rfl
@[simp] theorem State.setDet_tx (x : Quad Detector) : (s.setDet x).tx = s.tx := rfl
@[simp] theorem State.setDet_events (x : Quad Detector) : (s.setDet x).events = s.events := rfl
@[simp] theorem State.setDet_fault (x : Quad Detector) : (s.setDet x).fault = s.fault := rfl
@[simp] theorem State.setDet_store (x : Quad Detector) : (s.setDet x).store = s.store := rfl
@[simp] theorem State.setDet_counters (x : Quad Detector) : (s.setDet x).counters = s.counters := rfl
@[simp] theorem State.setDet_out (x : Quad Detector) : (s.setDet x).out = s.out := rfl
@[simp] theorem State.setDet_work (x : Quad Detector) : (s.setDet x).work = s.work := rfl
@[simp] theorem State.setDet_upset (x : Quad Detector) : (s.setDet x).upset = s.upset := rfl

@[simp] theorem State.setLastOut_pending (x : Quad Sample) : (s.setLastOut x).pending = s.pending := rfl
@[simp] theorem State.setLastOut_power (x : Quad Sample) : (s.setLastOut x).power = s.power := rfl
@[simp] theorem State.setLastOut_link (x : Quad Sample) : (s.setLastOut x).link = s.link := rfl
@[simp] theorem State.setLastOut_stream (x : Quad Sample) : (s.setLastOut x).stream = s.stream := rfl
@[simp] theorem State.setLastOut_ring (x : Quad Sample) : (s.setLastOut x).ring = s.ring := rfl
@[simp] theorem State.setLastOut_film (x : Quad Sample) : (s.setLastOut x).film = s.film := rfl
@[simp] theorem State.setLastOut_tracker (x : Quad Sample) : (s.setLastOut x).tracker = s.tracker := rfl
@[simp] theorem State.setLastOut_canc (x : Quad Sample) : (s.setLastOut x).canc = s.canc := rfl
@[simp] theorem State.setLastOut_det (x : Quad Sample) : (s.setLastOut x).det = s.det := rfl
@[simp] theorem State.setLastOut_lastOut (x : Quad Sample) : (s.setLastOut x).lastOut = x := rfl
@[simp] theorem State.setLastOut_log (x : Quad Sample) : (s.setLastOut x).log = s.log := rfl
@[simp] theorem State.setLastOut_hiss (x : Quad Sample) : (s.setLastOut x).hiss = s.hiss := rfl
@[simp] theorem State.setLastOut_tables (x : Quad Sample) : (s.setLastOut x).tables = s.tables := rfl
@[simp] theorem State.setLastOut_cmd (x : Quad Sample) : (s.setLastOut x).cmd = s.cmd := rfl
@[simp] theorem State.setLastOut_tx (x : Quad Sample) : (s.setLastOut x).tx = s.tx := rfl
@[simp] theorem State.setLastOut_events (x : Quad Sample) : (s.setLastOut x).events = s.events := rfl
@[simp] theorem State.setLastOut_fault (x : Quad Sample) : (s.setLastOut x).fault = s.fault := rfl
@[simp] theorem State.setLastOut_store (x : Quad Sample) : (s.setLastOut x).store = s.store := rfl
@[simp] theorem State.setLastOut_counters (x : Quad Sample) : (s.setLastOut x).counters = s.counters := rfl
@[simp] theorem State.setLastOut_out (x : Quad Sample) : (s.setLastOut x).out = s.out := rfl
@[simp] theorem State.setLastOut_work (x : Quad Sample) : (s.setLastOut x).work = s.work := rfl
@[simp] theorem State.setLastOut_upset (x : Quad Sample) : (s.setLastOut x).upset = s.upset := rfl

@[simp] theorem State.setLog_pending (x : DefectLog) : (s.setLog x).pending = s.pending := rfl
@[simp] theorem State.setLog_power (x : DefectLog) : (s.setLog x).power = s.power := rfl
@[simp] theorem State.setLog_link (x : DefectLog) : (s.setLog x).link = s.link := rfl
@[simp] theorem State.setLog_stream (x : DefectLog) : (s.setLog x).stream = s.stream := rfl
@[simp] theorem State.setLog_ring (x : DefectLog) : (s.setLog x).ring = s.ring := rfl
@[simp] theorem State.setLog_film (x : DefectLog) : (s.setLog x).film = s.film := rfl
@[simp] theorem State.setLog_tracker (x : DefectLog) : (s.setLog x).tracker = s.tracker := rfl
@[simp] theorem State.setLog_canc (x : DefectLog) : (s.setLog x).canc = s.canc := rfl
@[simp] theorem State.setLog_det (x : DefectLog) : (s.setLog x).det = s.det := rfl
@[simp] theorem State.setLog_lastOut (x : DefectLog) : (s.setLog x).lastOut = s.lastOut := rfl
@[simp] theorem State.setLog_log (x : DefectLog) : (s.setLog x).log = x := rfl
@[simp] theorem State.setLog_hiss (x : DefectLog) : (s.setLog x).hiss = s.hiss := rfl
@[simp] theorem State.setLog_tables (x : DefectLog) : (s.setLog x).tables = s.tables := rfl
@[simp] theorem State.setLog_cmd (x : DefectLog) : (s.setLog x).cmd = s.cmd := rfl
@[simp] theorem State.setLog_tx (x : DefectLog) : (s.setLog x).tx = s.tx := rfl
@[simp] theorem State.setLog_events (x : DefectLog) : (s.setLog x).events = s.events := rfl
@[simp] theorem State.setLog_fault (x : DefectLog) : (s.setLog x).fault = s.fault := rfl
@[simp] theorem State.setLog_store (x : DefectLog) : (s.setLog x).store = s.store := rfl
@[simp] theorem State.setLog_counters (x : DefectLog) : (s.setLog x).counters = s.counters := rfl
@[simp] theorem State.setLog_out (x : DefectLog) : (s.setLog x).out = s.out := rfl
@[simp] theorem State.setLog_work (x : DefectLog) : (s.setLog x).work = s.work := rfl
@[simp] theorem State.setLog_upset (x : DefectLog) : (s.setLog x).upset = s.upset := rfl

@[simp] theorem State.setHiss_pending (x : Quad Hiss) : (s.setHiss x).pending = s.pending := rfl
@[simp] theorem State.setHiss_power (x : Quad Hiss) : (s.setHiss x).power = s.power := rfl
@[simp] theorem State.setHiss_link (x : Quad Hiss) : (s.setHiss x).link = s.link := rfl
@[simp] theorem State.setHiss_stream (x : Quad Hiss) : (s.setHiss x).stream = s.stream := rfl
@[simp] theorem State.setHiss_ring (x : Quad Hiss) : (s.setHiss x).ring = s.ring := rfl
@[simp] theorem State.setHiss_film (x : Quad Hiss) : (s.setHiss x).film = s.film := rfl
@[simp] theorem State.setHiss_tracker (x : Quad Hiss) : (s.setHiss x).tracker = s.tracker := rfl
@[simp] theorem State.setHiss_canc (x : Quad Hiss) : (s.setHiss x).canc = s.canc := rfl
@[simp] theorem State.setHiss_det (x : Quad Hiss) : (s.setHiss x).det = s.det := rfl
@[simp] theorem State.setHiss_lastOut (x : Quad Hiss) : (s.setHiss x).lastOut = s.lastOut := rfl
@[simp] theorem State.setHiss_log (x : Quad Hiss) : (s.setHiss x).log = s.log := rfl
@[simp] theorem State.setHiss_hiss (x : Quad Hiss) : (s.setHiss x).hiss = x := rfl
@[simp] theorem State.setHiss_tables (x : Quad Hiss) : (s.setHiss x).tables = s.tables := rfl
@[simp] theorem State.setHiss_cmd (x : Quad Hiss) : (s.setHiss x).cmd = s.cmd := rfl
@[simp] theorem State.setHiss_tx (x : Quad Hiss) : (s.setHiss x).tx = s.tx := rfl
@[simp] theorem State.setHiss_events (x : Quad Hiss) : (s.setHiss x).events = s.events := rfl
@[simp] theorem State.setHiss_fault (x : Quad Hiss) : (s.setHiss x).fault = s.fault := rfl
@[simp] theorem State.setHiss_store (x : Quad Hiss) : (s.setHiss x).store = s.store := rfl
@[simp] theorem State.setHiss_counters (x : Quad Hiss) : (s.setHiss x).counters = s.counters := rfl
@[simp] theorem State.setHiss_out (x : Quad Hiss) : (s.setHiss x).out = s.out := rfl
@[simp] theorem State.setHiss_work (x : Quad Hiss) : (s.setHiss x).work = s.work := rfl
@[simp] theorem State.setHiss_upset (x : Quad Hiss) : (s.setHiss x).upset = s.upset := rfl

@[simp] theorem State.setTables_pending (x : Tables) : (s.setTables x).pending = s.pending := rfl
@[simp] theorem State.setTables_power (x : Tables) : (s.setTables x).power = s.power := rfl
@[simp] theorem State.setTables_link (x : Tables) : (s.setTables x).link = s.link := rfl
@[simp] theorem State.setTables_stream (x : Tables) : (s.setTables x).stream = s.stream := rfl
@[simp] theorem State.setTables_ring (x : Tables) : (s.setTables x).ring = s.ring := rfl
@[simp] theorem State.setTables_film (x : Tables) : (s.setTables x).film = s.film := rfl
@[simp] theorem State.setTables_tracker (x : Tables) : (s.setTables x).tracker = s.tracker := rfl
@[simp] theorem State.setTables_canc (x : Tables) : (s.setTables x).canc = s.canc := rfl
@[simp] theorem State.setTables_det (x : Tables) : (s.setTables x).det = s.det := rfl
@[simp] theorem State.setTables_lastOut (x : Tables) : (s.setTables x).lastOut = s.lastOut := rfl
@[simp] theorem State.setTables_log (x : Tables) : (s.setTables x).log = s.log := rfl
@[simp] theorem State.setTables_hiss (x : Tables) : (s.setTables x).hiss = s.hiss := rfl
@[simp] theorem State.setTables_tables (x : Tables) : (s.setTables x).tables = x := rfl
@[simp] theorem State.setTables_cmd (x : Tables) : (s.setTables x).cmd = s.cmd := rfl
@[simp] theorem State.setTables_tx (x : Tables) : (s.setTables x).tx = s.tx := rfl
@[simp] theorem State.setTables_events (x : Tables) : (s.setTables x).events = s.events := rfl
@[simp] theorem State.setTables_fault (x : Tables) : (s.setTables x).fault = s.fault := rfl
@[simp] theorem State.setTables_store (x : Tables) : (s.setTables x).store = s.store := rfl
@[simp] theorem State.setTables_counters (x : Tables) : (s.setTables x).counters = s.counters := rfl
@[simp] theorem State.setTables_out (x : Tables) : (s.setTables x).out = s.out := rfl
@[simp] theorem State.setTables_work (x : Tables) : (s.setTables x).work = s.work := rfl
@[simp] theorem State.setTables_upset (x : Tables) : (s.setTables x).upset = s.upset := rfl

@[simp] theorem State.setCmd_pending (x : CommandUnit) : (s.setCmd x).pending = s.pending := rfl
@[simp] theorem State.setCmd_power (x : CommandUnit) : (s.setCmd x).power = s.power := rfl
@[simp] theorem State.setCmd_link (x : CommandUnit) : (s.setCmd x).link = s.link := rfl
@[simp] theorem State.setCmd_stream (x : CommandUnit) : (s.setCmd x).stream = s.stream := rfl
@[simp] theorem State.setCmd_ring (x : CommandUnit) : (s.setCmd x).ring = s.ring := rfl
@[simp] theorem State.setCmd_film (x : CommandUnit) : (s.setCmd x).film = s.film := rfl
@[simp] theorem State.setCmd_tracker (x : CommandUnit) : (s.setCmd x).tracker = s.tracker := rfl
@[simp] theorem State.setCmd_canc (x : CommandUnit) : (s.setCmd x).canc = s.canc := rfl
@[simp] theorem State.setCmd_det (x : CommandUnit) : (s.setCmd x).det = s.det := rfl
@[simp] theorem State.setCmd_lastOut (x : CommandUnit) : (s.setCmd x).lastOut = s.lastOut := rfl
@[simp] theorem State.setCmd_log (x : CommandUnit) : (s.setCmd x).log = s.log := rfl
@[simp] theorem State.setCmd_hiss (x : CommandUnit) : (s.setCmd x).hiss = s.hiss := rfl
@[simp] theorem State.setCmd_tables (x : CommandUnit) : (s.setCmd x).tables = s.tables := rfl
@[simp] theorem State.setCmd_cmd (x : CommandUnit) : (s.setCmd x).cmd = x := rfl
@[simp] theorem State.setCmd_tx (x : CommandUnit) : (s.setCmd x).tx = s.tx := rfl
@[simp] theorem State.setCmd_events (x : CommandUnit) : (s.setCmd x).events = s.events := rfl
@[simp] theorem State.setCmd_fault (x : CommandUnit) : (s.setCmd x).fault = s.fault := rfl
@[simp] theorem State.setCmd_store (x : CommandUnit) : (s.setCmd x).store = s.store := rfl
@[simp] theorem State.setCmd_counters (x : CommandUnit) : (s.setCmd x).counters = s.counters := rfl
@[simp] theorem State.setCmd_out (x : CommandUnit) : (s.setCmd x).out = s.out := rfl
@[simp] theorem State.setCmd_work (x : CommandUnit) : (s.setCmd x).work = s.work := rfl
@[simp] theorem State.setCmd_upset (x : CommandUnit) : (s.setCmd x).upset = s.upset := rfl

@[simp] theorem State.setTx_pending (x : Option Transmission) : (s.setTx x).pending = s.pending := rfl
@[simp] theorem State.setTx_power (x : Option Transmission) : (s.setTx x).power = s.power := rfl
@[simp] theorem State.setTx_link (x : Option Transmission) : (s.setTx x).link = s.link := rfl
@[simp] theorem State.setTx_stream (x : Option Transmission) : (s.setTx x).stream = s.stream := rfl
@[simp] theorem State.setTx_ring (x : Option Transmission) : (s.setTx x).ring = s.ring := rfl
@[simp] theorem State.setTx_film (x : Option Transmission) : (s.setTx x).film = s.film := rfl
@[simp] theorem State.setTx_tracker (x : Option Transmission) : (s.setTx x).tracker = s.tracker := rfl
@[simp] theorem State.setTx_canc (x : Option Transmission) : (s.setTx x).canc = s.canc := rfl
@[simp] theorem State.setTx_det (x : Option Transmission) : (s.setTx x).det = s.det := rfl
@[simp] theorem State.setTx_lastOut (x : Option Transmission) : (s.setTx x).lastOut = s.lastOut := rfl
@[simp] theorem State.setTx_log (x : Option Transmission) : (s.setTx x).log = s.log := rfl
@[simp] theorem State.setTx_hiss (x : Option Transmission) : (s.setTx x).hiss = s.hiss := rfl
@[simp] theorem State.setTx_tables (x : Option Transmission) : (s.setTx x).tables = s.tables := rfl
@[simp] theorem State.setTx_cmd (x : Option Transmission) : (s.setTx x).cmd = s.cmd := rfl
@[simp] theorem State.setTx_tx (x : Option Transmission) : (s.setTx x).tx = x := rfl
@[simp] theorem State.setTx_events (x : Option Transmission) : (s.setTx x).events = s.events := rfl
@[simp] theorem State.setTx_fault (x : Option Transmission) : (s.setTx x).fault = s.fault := rfl
@[simp] theorem State.setTx_store (x : Option Transmission) : (s.setTx x).store = s.store := rfl
@[simp] theorem State.setTx_counters (x : Option Transmission) : (s.setTx x).counters = s.counters := rfl
@[simp] theorem State.setTx_out (x : Option Transmission) : (s.setTx x).out = s.out := rfl
@[simp] theorem State.setTx_work (x : Option Transmission) : (s.setTx x).work = s.work := rfl
@[simp] theorem State.setTx_upset (x : Option Transmission) : (s.setTx x).upset = s.upset := rfl

@[simp] theorem State.setEvents_pending (x : Events) : (s.setEvents x).pending = s.pending := rfl
@[simp] theorem State.setEvents_power (x : Events) : (s.setEvents x).power = s.power := rfl
@[simp] theorem State.setEvents_link (x : Events) : (s.setEvents x).link = s.link := rfl
@[simp] theorem State.setEvents_stream (x : Events) : (s.setEvents x).stream = s.stream := rfl
@[simp] theorem State.setEvents_ring (x : Events) : (s.setEvents x).ring = s.ring := rfl
@[simp] theorem State.setEvents_film (x : Events) : (s.setEvents x).film = s.film := rfl
@[simp] theorem State.setEvents_tracker (x : Events) : (s.setEvents x).tracker = s.tracker := rfl
@[simp] theorem State.setEvents_canc (x : Events) : (s.setEvents x).canc = s.canc := rfl
@[simp] theorem State.setEvents_det (x : Events) : (s.setEvents x).det = s.det := rfl
@[simp] theorem State.setEvents_lastOut (x : Events) : (s.setEvents x).lastOut = s.lastOut := rfl
@[simp] theorem State.setEvents_log (x : Events) : (s.setEvents x).log = s.log := rfl
@[simp] theorem State.setEvents_hiss (x : Events) : (s.setEvents x).hiss = s.hiss := rfl
@[simp] theorem State.setEvents_tables (x : Events) : (s.setEvents x).tables = s.tables := rfl
@[simp] theorem State.setEvents_cmd (x : Events) : (s.setEvents x).cmd = s.cmd := rfl
@[simp] theorem State.setEvents_tx (x : Events) : (s.setEvents x).tx = s.tx := rfl
@[simp] theorem State.setEvents_events (x : Events) : (s.setEvents x).events = x := rfl
@[simp] theorem State.setEvents_fault (x : Events) : (s.setEvents x).fault = s.fault := rfl
@[simp] theorem State.setEvents_store (x : Events) : (s.setEvents x).store = s.store := rfl
@[simp] theorem State.setEvents_counters (x : Events) : (s.setEvents x).counters = s.counters := rfl
@[simp] theorem State.setEvents_out (x : Events) : (s.setEvents x).out = s.out := rfl
@[simp] theorem State.setEvents_work (x : Events) : (s.setEvents x).work = s.work := rfl
@[simp] theorem State.setEvents_upset (x : Events) : (s.setEvents x).upset = s.upset := rfl

@[simp] theorem State.setFault_pending (x : FaultUnit) : (s.setFault x).pending = s.pending := rfl
@[simp] theorem State.setFault_power (x : FaultUnit) : (s.setFault x).power = s.power := rfl
@[simp] theorem State.setFault_link (x : FaultUnit) : (s.setFault x).link = s.link := rfl
@[simp] theorem State.setFault_stream (x : FaultUnit) : (s.setFault x).stream = s.stream := rfl
@[simp] theorem State.setFault_ring (x : FaultUnit) : (s.setFault x).ring = s.ring := rfl
@[simp] theorem State.setFault_film (x : FaultUnit) : (s.setFault x).film = s.film := rfl
@[simp] theorem State.setFault_tracker (x : FaultUnit) : (s.setFault x).tracker = s.tracker := rfl
@[simp] theorem State.setFault_canc (x : FaultUnit) : (s.setFault x).canc = s.canc := rfl
@[simp] theorem State.setFault_det (x : FaultUnit) : (s.setFault x).det = s.det := rfl
@[simp] theorem State.setFault_lastOut (x : FaultUnit) : (s.setFault x).lastOut = s.lastOut := rfl
@[simp] theorem State.setFault_log (x : FaultUnit) : (s.setFault x).log = s.log := rfl
@[simp] theorem State.setFault_hiss (x : FaultUnit) : (s.setFault x).hiss = s.hiss := rfl
@[simp] theorem State.setFault_tables (x : FaultUnit) : (s.setFault x).tables = s.tables := rfl
@[simp] theorem State.setFault_cmd (x : FaultUnit) : (s.setFault x).cmd = s.cmd := rfl
@[simp] theorem State.setFault_tx (x : FaultUnit) : (s.setFault x).tx = s.tx := rfl
@[simp] theorem State.setFault_events (x : FaultUnit) : (s.setFault x).events = s.events := rfl
@[simp] theorem State.setFault_fault (x : FaultUnit) : (s.setFault x).fault = x := rfl
@[simp] theorem State.setFault_store (x : FaultUnit) : (s.setFault x).store = s.store := rfl
@[simp] theorem State.setFault_counters (x : FaultUnit) : (s.setFault x).counters = s.counters := rfl
@[simp] theorem State.setFault_out (x : FaultUnit) : (s.setFault x).out = s.out := rfl
@[simp] theorem State.setFault_work (x : FaultUnit) : (s.setFault x).work = s.work := rfl
@[simp] theorem State.setFault_upset (x : FaultUnit) : (s.setFault x).upset = s.upset := rfl

@[simp] theorem State.setStore_pending (x : ProfileStore) : (s.setStore x).pending = s.pending := rfl
@[simp] theorem State.setStore_power (x : ProfileStore) : (s.setStore x).power = s.power := rfl
@[simp] theorem State.setStore_link (x : ProfileStore) : (s.setStore x).link = s.link := rfl
@[simp] theorem State.setStore_stream (x : ProfileStore) : (s.setStore x).stream = s.stream := rfl
@[simp] theorem State.setStore_ring (x : ProfileStore) : (s.setStore x).ring = s.ring := rfl
@[simp] theorem State.setStore_film (x : ProfileStore) : (s.setStore x).film = s.film := rfl
@[simp] theorem State.setStore_tracker (x : ProfileStore) : (s.setStore x).tracker = s.tracker := rfl
@[simp] theorem State.setStore_canc (x : ProfileStore) : (s.setStore x).canc = s.canc := rfl
@[simp] theorem State.setStore_det (x : ProfileStore) : (s.setStore x).det = s.det := rfl
@[simp] theorem State.setStore_lastOut (x : ProfileStore) : (s.setStore x).lastOut = s.lastOut := rfl
@[simp] theorem State.setStore_log (x : ProfileStore) : (s.setStore x).log = s.log := rfl
@[simp] theorem State.setStore_hiss (x : ProfileStore) : (s.setStore x).hiss = s.hiss := rfl
@[simp] theorem State.setStore_tables (x : ProfileStore) : (s.setStore x).tables = s.tables := rfl
@[simp] theorem State.setStore_cmd (x : ProfileStore) : (s.setStore x).cmd = s.cmd := rfl
@[simp] theorem State.setStore_tx (x : ProfileStore) : (s.setStore x).tx = s.tx := rfl
@[simp] theorem State.setStore_events (x : ProfileStore) : (s.setStore x).events = s.events := rfl
@[simp] theorem State.setStore_fault (x : ProfileStore) : (s.setStore x).fault = s.fault := rfl
@[simp] theorem State.setStore_store (x : ProfileStore) : (s.setStore x).store = x := rfl
@[simp] theorem State.setStore_counters (x : ProfileStore) : (s.setStore x).counters = s.counters := rfl
@[simp] theorem State.setStore_out (x : ProfileStore) : (s.setStore x).out = s.out := rfl
@[simp] theorem State.setStore_work (x : ProfileStore) : (s.setStore x).work = s.work := rfl
@[simp] theorem State.setStore_upset (x : ProfileStore) : (s.setStore x).upset = s.upset := rfl

@[simp] theorem State.setCounters_pending (x : Counters) : (s.setCounters x).pending = s.pending := rfl
@[simp] theorem State.setCounters_power (x : Counters) : (s.setCounters x).power = s.power := rfl
@[simp] theorem State.setCounters_link (x : Counters) : (s.setCounters x).link = s.link := rfl
@[simp] theorem State.setCounters_stream (x : Counters) : (s.setCounters x).stream = s.stream := rfl
@[simp] theorem State.setCounters_ring (x : Counters) : (s.setCounters x).ring = s.ring := rfl
@[simp] theorem State.setCounters_film (x : Counters) : (s.setCounters x).film = s.film := rfl
@[simp] theorem State.setCounters_tracker (x : Counters) : (s.setCounters x).tracker = s.tracker := rfl
@[simp] theorem State.setCounters_canc (x : Counters) : (s.setCounters x).canc = s.canc := rfl
@[simp] theorem State.setCounters_det (x : Counters) : (s.setCounters x).det = s.det := rfl
@[simp] theorem State.setCounters_lastOut (x : Counters) : (s.setCounters x).lastOut = s.lastOut := rfl
@[simp] theorem State.setCounters_log (x : Counters) : (s.setCounters x).log = s.log := rfl
@[simp] theorem State.setCounters_hiss (x : Counters) : (s.setCounters x).hiss = s.hiss := rfl
@[simp] theorem State.setCounters_tables (x : Counters) : (s.setCounters x).tables = s.tables := rfl
@[simp] theorem State.setCounters_cmd (x : Counters) : (s.setCounters x).cmd = s.cmd := rfl
@[simp] theorem State.setCounters_tx (x : Counters) : (s.setCounters x).tx = s.tx := rfl
@[simp] theorem State.setCounters_events (x : Counters) : (s.setCounters x).events = s.events := rfl
@[simp] theorem State.setCounters_fault (x : Counters) : (s.setCounters x).fault = s.fault := rfl
@[simp] theorem State.setCounters_store (x : Counters) : (s.setCounters x).store = s.store := rfl
@[simp] theorem State.setCounters_counters (x : Counters) : (s.setCounters x).counters = x := rfl
@[simp] theorem State.setCounters_out (x : Counters) : (s.setCounters x).out = s.out := rfl
@[simp] theorem State.setCounters_work (x : Counters) : (s.setCounters x).work = s.work := rfl
@[simp] theorem State.setCounters_upset (x : Counters) : (s.setCounters x).upset = s.upset := rfl

@[simp] theorem State.setOut_pending (x : Output) : (s.setOut x).pending = s.pending := rfl
@[simp] theorem State.setOut_power (x : Output) : (s.setOut x).power = s.power := rfl
@[simp] theorem State.setOut_link (x : Output) : (s.setOut x).link = s.link := rfl
@[simp] theorem State.setOut_stream (x : Output) : (s.setOut x).stream = s.stream := rfl
@[simp] theorem State.setOut_ring (x : Output) : (s.setOut x).ring = s.ring := rfl
@[simp] theorem State.setOut_film (x : Output) : (s.setOut x).film = s.film := rfl
@[simp] theorem State.setOut_tracker (x : Output) : (s.setOut x).tracker = s.tracker := rfl
@[simp] theorem State.setOut_canc (x : Output) : (s.setOut x).canc = s.canc := rfl
@[simp] theorem State.setOut_det (x : Output) : (s.setOut x).det = s.det := rfl
@[simp] theorem State.setOut_lastOut (x : Output) : (s.setOut x).lastOut = s.lastOut := rfl
@[simp] theorem State.setOut_log (x : Output) : (s.setOut x).log = s.log := rfl
@[simp] theorem State.setOut_hiss (x : Output) : (s.setOut x).hiss = s.hiss := rfl
@[simp] theorem State.setOut_tables (x : Output) : (s.setOut x).tables = s.tables := rfl
@[simp] theorem State.setOut_cmd (x : Output) : (s.setOut x).cmd = s.cmd := rfl
@[simp] theorem State.setOut_tx (x : Output) : (s.setOut x).tx = s.tx := rfl
@[simp] theorem State.setOut_events (x : Output) : (s.setOut x).events = s.events := rfl
@[simp] theorem State.setOut_fault (x : Output) : (s.setOut x).fault = s.fault := rfl
@[simp] theorem State.setOut_store (x : Output) : (s.setOut x).store = s.store := rfl
@[simp] theorem State.setOut_counters (x : Output) : (s.setOut x).counters = s.counters := rfl
@[simp] theorem State.setOut_out (x : Output) : (s.setOut x).out = x := rfl
@[simp] theorem State.setOut_work (x : Output) : (s.setOut x).work = s.work := rfl
@[simp] theorem State.setOut_upset (x : Output) : (s.setOut x).upset = s.upset := rfl

@[simp] theorem State.setWork_pending (x : Work) : (s.setWork x).pending = s.pending := rfl
@[simp] theorem State.setWork_power (x : Work) : (s.setWork x).power = s.power := rfl
@[simp] theorem State.setWork_link (x : Work) : (s.setWork x).link = s.link := rfl
@[simp] theorem State.setWork_stream (x : Work) : (s.setWork x).stream = s.stream := rfl
@[simp] theorem State.setWork_ring (x : Work) : (s.setWork x).ring = s.ring := rfl
@[simp] theorem State.setWork_film (x : Work) : (s.setWork x).film = s.film := rfl
@[simp] theorem State.setWork_tracker (x : Work) : (s.setWork x).tracker = s.tracker := rfl
@[simp] theorem State.setWork_canc (x : Work) : (s.setWork x).canc = s.canc := rfl
@[simp] theorem State.setWork_det (x : Work) : (s.setWork x).det = s.det := rfl
@[simp] theorem State.setWork_lastOut (x : Work) : (s.setWork x).lastOut = s.lastOut := rfl
@[simp] theorem State.setWork_log (x : Work) : (s.setWork x).log = s.log := rfl
@[simp] theorem State.setWork_hiss (x : Work) : (s.setWork x).hiss = s.hiss := rfl
@[simp] theorem State.setWork_tables (x : Work) : (s.setWork x).tables = s.tables := rfl
@[simp] theorem State.setWork_cmd (x : Work) : (s.setWork x).cmd = s.cmd := rfl
@[simp] theorem State.setWork_tx (x : Work) : (s.setWork x).tx = s.tx := rfl
@[simp] theorem State.setWork_events (x : Work) : (s.setWork x).events = s.events := rfl
@[simp] theorem State.setWork_fault (x : Work) : (s.setWork x).fault = s.fault := rfl
@[simp] theorem State.setWork_store (x : Work) : (s.setWork x).store = s.store := rfl
@[simp] theorem State.setWork_counters (x : Work) : (s.setWork x).counters = s.counters := rfl
@[simp] theorem State.setWork_out (x : Work) : (s.setWork x).out = s.out := rfl
@[simp] theorem State.setWork_work (x : Work) : (s.setWork x).work = x := rfl
@[simp] theorem State.setWork_upset (x : Work) : (s.setWork x).upset = s.upset := rfl

@[simp] theorem State.setUpset_pending (x : Quad Bool) : (s.setUpset x).pending = s.pending := rfl
@[simp] theorem State.setUpset_power (x : Quad Bool) : (s.setUpset x).power = s.power := rfl
@[simp] theorem State.setUpset_link (x : Quad Bool) : (s.setUpset x).link = s.link := rfl
@[simp] theorem State.setUpset_stream (x : Quad Bool) : (s.setUpset x).stream = s.stream := rfl
@[simp] theorem State.setUpset_ring (x : Quad Bool) : (s.setUpset x).ring = s.ring := rfl
@[simp] theorem State.setUpset_film (x : Quad Bool) : (s.setUpset x).film = s.film := rfl
@[simp] theorem State.setUpset_tracker (x : Quad Bool) : (s.setUpset x).tracker = s.tracker := rfl
@[simp] theorem State.setUpset_canc (x : Quad Bool) : (s.setUpset x).canc = s.canc := rfl
@[simp] theorem State.setUpset_det (x : Quad Bool) : (s.setUpset x).det = s.det := rfl
@[simp] theorem State.setUpset_lastOut (x : Quad Bool) : (s.setUpset x).lastOut = s.lastOut := rfl
@[simp] theorem State.setUpset_log (x : Quad Bool) : (s.setUpset x).log = s.log := rfl
@[simp] theorem State.setUpset_hiss (x : Quad Bool) : (s.setUpset x).hiss = s.hiss := rfl
@[simp] theorem State.setUpset_tables (x : Quad Bool) : (s.setUpset x).tables = s.tables := rfl
@[simp] theorem State.setUpset_cmd (x : Quad Bool) : (s.setUpset x).cmd = s.cmd := rfl
@[simp] theorem State.setUpset_tx (x : Quad Bool) : (s.setUpset x).tx = s.tx := rfl
@[simp] theorem State.setUpset_events (x : Quad Bool) : (s.setUpset x).events = s.events := rfl
@[simp] theorem State.setUpset_fault (x : Quad Bool) : (s.setUpset x).fault = s.fault := rfl
@[simp] theorem State.setUpset_store (x : Quad Bool) : (s.setUpset x).store = s.store := rfl
@[simp] theorem State.setUpset_counters (x : Quad Bool) : (s.setUpset x).counters = s.counters := rfl
@[simp] theorem State.setUpset_out (x : Quad Bool) : (s.setUpset x).out = s.out := rfl
@[simp] theorem State.setUpset_work (x : Quad Bool) : (s.setUpset x).work = s.work := rfl
@[simp] theorem State.setUpset_upset (x : Quad Bool) : (s.setUpset x).upset = x := rfl

end Sys2Proof.Machine
end

