-- ==== Sys2Proof/Laws/Shared.lean ====
section
/-! SUPPORT. Raising an event changes the event queue's state alone, and never brings the queue above 32
records; the same for the other small shared operations. -/

namespace Sys2Proof.Machine

variable (k : EventKind) (ch : Option Channel) (p : Option (BitVec 32)) (s : State)

@[simp] theorem raise_pending : (raise k ch p s).pending = s.pending := rfl
@[simp] theorem raise_power : (raise k ch p s).power = s.power := rfl
@[simp] theorem raise_link : (raise k ch p s).link = s.link := rfl
@[simp] theorem raise_stream : (raise k ch p s).stream = s.stream := rfl
@[simp] theorem raise_ring : (raise k ch p s).ring = s.ring := rfl
@[simp] theorem raise_film : (raise k ch p s).film = s.film := rfl
@[simp] theorem raise_tracker : (raise k ch p s).tracker = s.tracker := rfl
@[simp] theorem raise_canc : (raise k ch p s).canc = s.canc := rfl
@[simp] theorem raise_det : (raise k ch p s).det = s.det := rfl
@[simp] theorem raise_lastOut : (raise k ch p s).lastOut = s.lastOut := rfl
@[simp] theorem raise_log : (raise k ch p s).log = s.log := rfl
@[simp] theorem raise_hiss : (raise k ch p s).hiss = s.hiss := rfl
@[simp] theorem raise_tables : (raise k ch p s).tables = s.tables := rfl
@[simp] theorem raise_cmd : (raise k ch p s).cmd = s.cmd := rfl
@[simp] theorem raise_tx : (raise k ch p s).tx = s.tx := rfl
@[simp] theorem raise_fault : (raise k ch p s).fault = s.fault := rfl
@[simp] theorem raise_store : (raise k ch p s).store = s.store := rfl
@[simp] theorem raise_counters : (raise k ch p s).counters = s.counters := rfl
@[simp] theorem raise_out : (raise k ch p s).out = s.out := rfl
@[simp] theorem raise_work : (raise k ch p s).work = s.work := rfl
@[simp] theorem raise_upset : (raise k ch p s).upset = s.upset := rfl

/-- What a raising makes of the event queue's state (R172). -/
theorem raise_events : (raise k ch p s).events = takeRaising (eventRecord s k ch p) s.events := rfl

@[simp] theorem placeReply_pending (code : BitVec 8) (body : List Word) : (placeReply code body s).pending = s.pending := rfl
@[simp] theorem placeReply_power (code : BitVec 8) (body : List Word) : (placeReply code body s).power = s.power := rfl
@[simp] theorem placeReply_link (code : BitVec 8) (body : List Word) : (placeReply code body s).link = s.link := rfl
@[simp] theorem placeReply_stream (code : BitVec 8) (body : List Word) : (placeReply code body s).stream = s.stream := rfl
@[simp] theorem placeReply_ring (code : BitVec 8) (body : List Word) : (placeReply code body s).ring = s.ring := rfl
@[simp] theorem placeReply_film (code : BitVec 8) (body : List Word) : (placeReply code body s).film = s.film := rfl
@[simp] theorem placeReply_tracker (code : BitVec 8) (body : List Word) : (placeReply code body s).tracker = s.tracker := rfl
@[simp] theorem placeReply_canc (code : BitVec 8) (body : List Word) : (placeReply code body s).canc = s.canc := rfl
@[simp] theorem placeReply_det (code : BitVec 8) (body : List Word) : (placeReply code body s).det = s.det := rfl
@[simp] theorem placeReply_lastOut (code : BitVec 8) (body : List Word) : (placeReply code body s).lastOut = s.lastOut := rfl
@[simp] theorem placeReply_log (code : BitVec 8) (body : List Word) : (placeReply code body s).log = s.log := rfl
@[simp] theorem placeReply_hiss (code : BitVec 8) (body : List Word) : (placeReply code body s).hiss = s.hiss := rfl
@[simp] theorem placeReply_tables (code : BitVec 8) (body : List Word) : (placeReply code body s).tables = s.tables := rfl
@[simp] theorem placeReply_tx (code : BitVec 8) (body : List Word) : (placeReply code body s).tx = s.tx := rfl
@[simp] theorem placeReply_events (code : BitVec 8) (body : List Word) : (placeReply code body s).events = s.events := rfl
@[simp] theorem placeReply_fault (code : BitVec 8) (body : List Word) : (placeReply code body s).fault = s.fault := rfl
@[simp] theorem placeReply_store (code : BitVec 8) (body : List Word) : (placeReply code body s).store = s.store := rfl
@[simp] theorem placeReply_counters (code : BitVec 8) (body : List Word) : (placeReply code body s).counters = s.counters := rfl
@[simp] theorem placeReply_out (code : BitVec 8) (body : List Word) : (placeReply code body s).out = s.out := rfl
@[simp] theorem placeReply_work (code : BitVec 8) (body : List Word) : (placeReply code body s).work = s.work := rfl
@[simp] theorem placeReply_upset (code : BitVec 8) (body : List Word) : (placeReply code body s).upset = s.upset := rfl
@[simp] theorem placeReply_cmd (code : BitVec 8) (body : List Word) :
    (placeReply code body s).cmd = ⟨s.cmd.assembly, s.cmd.replies ++ [⟨code, body⟩]⟩ := rfl

@[simp] theorem setDetector_pending (c : Channel) (d : Detector) : (setDetector c d s).pending = s.pending := rfl
@[simp] theorem setDetector_power (c : Channel) (d : Detector) : (setDetector c d s).power = s.power := rfl
@[simp] theorem setDetector_link (c : Channel) (d : Detector) : (setDetector c d s).link = s.link := rfl
@[simp] theorem setDetector_stream (c : Channel) (d : Detector) : (setDetector c d s).stream = s.stream := rfl
@[simp] theorem setDetector_ring (c : Channel) (d : Detector) : (setDetector c d s).ring = s.ring := rfl
@[simp] theorem setDetector_film (c : Channel) (d : Detector) : (setDetector c d s).film = s.film := rfl
@[simp] theorem setDetector_tracker (c : Channel) (d : Detector) : (setDetector c d s).tracker = s.tracker := rfl
@[simp] theorem setDetector_canc (c : Channel) (d : Detector) : (setDetector c d s).canc = s.canc := rfl
@[simp] theorem setDetector_lastOut (c : Channel) (d : Detector) : (setDetector c d s).lastOut = s.lastOut := rfl
@[simp] theorem setDetector_log (c : Channel) (d : Detector) : (setDetector c d s).log = s.log := rfl
@[simp] theorem setDetector_hiss (c : Channel) (d : Detector) : (setDetector c d s).hiss = s.hiss := rfl
@[simp] theorem setDetector_tables (c : Channel) (d : Detector) : (setDetector c d s).tables = s.tables := rfl
@[simp] theorem setDetector_cmd (c : Channel) (d : Detector) : (setDetector c d s).cmd = s.cmd := rfl
@[simp] theorem setDetector_tx (c : Channel) (d : Detector) : (setDetector c d s).tx = s.tx := rfl
@[simp] theorem setDetector_events (c : Channel) (d : Detector) : (setDetector c d s).events = s.events := rfl
@[simp] theorem setDetector_fault (c : Channel) (d : Detector) : (setDetector c d s).fault = s.fault := rfl
@[simp] theorem setDetector_store (c : Channel) (d : Detector) : (setDetector c d s).store = s.store := rfl
@[simp] theorem setDetector_counters (c : Channel) (d : Detector) : (setDetector c d s).counters = s.counters := rfl
@[simp] theorem setDetector_out (c : Channel) (d : Detector) : (setDetector c d s).out = s.out := rfl
@[simp] theorem setDetector_work (c : Channel) (d : Detector) : (setDetector c d s).work = s.work := rfl
@[simp] theorem setDetector_upset (c : Channel) (d : Detector) : (setDetector c d s).upset = s.upset := rfl
@[simp] theorem setDetector_det (c : Channel) (d : Detector) : (setDetector c d s).det = s.det.set c d := rfl

/-- An entry of the four-channel container after one of them is replaced. -/
theorem Quad.get_set {α : Type} (q : Quad α) (a b : Channel) (v : α) :
    (q.set a v).get b = if b = a then v else q.get b := by
  cases a <;> cases b <;> rfl

@[simp] theorem Quad.get_set_same {α : Type} (q : Quad α) (a : Channel) (v : α) : (q.set a v).get a = v := by
  cases a <;> rfl

@[simp] theorem Quad.get_all {α : Type} (v : α) (a : Channel) : (Quad.all v).get a = v := by
  cases a <;> rfl

@[simp] theorem Quad.get_build {α : Type} (f : Channel → α) (a : Channel) : (Quad.build f).get a = f a := by
  cases a <;> rfl

/-- Two containers with the same entry for every channel are the same. -/
theorem Quad.ext_get {α : Type} {q r : Quad α} (h : ∀ c, q.get c = r.get c) : q = r := by
  cases q; cases r
  have h0 := h .ch0; have h1 := h .ch1; have h2 := h .ch2; have h3 := h .ch3
  simp only [Quad.get] at h0 h1 h2 h3
  subst h0; subst h1; subst h2; subst h3; rfl

/-- What every channel's operation keeps, an operation for each channel in turn keeps. -/
theorem eachChannel_keeps {P : State → Prop} {f : Channel → State → State} (h : ∀ c s, P s → P (f c s))
    {s : State} (hs : P s) : P (eachChannel f s) := h _ _ (h _ _ (h _ _ (h _ _ hs)))

/-! ### The event queue -/

theorem placeRecord_queue_le {r : EventRecord} {e : Events} (h : e.queue.length ≤ 32) :
    (placeRecord r e).queue.length ≤ 32 := by
  unfold placeRecord Config.queueMax
  split <;> simp_all

theorem raiseEventsLost_queue_le {tag : BitVec 24} {offset : BitVec 16} {e : Events}
    (h : e.queue.length ≤ 32) : (raiseEventsLost tag offset e).queue.length ≤ 32 := by
  simp only [raiseEventsLost]
  split
  · exact h
  · exact placeRecord_queue_le h

/-- R172: steps 3 to 5 of a raising leave at most 32 records. -/
theorem offerRecord_queue_le {tag : BitVec 24} {offset : BitVec 16} {r : EventRecord} {e : Events}
    (h : e.queue.length ≤ 32) : (offerRecord tag offset r e).queue.length ≤ 32 := by
  unfold offerRecord
  split
  · exact h
  · apply placeRecord_queue_le
    split
    · exact h
    · exact raiseEventsLost_queue_le h

/-- R172: a raising leaves at most 32 records. -/
theorem takeRaising_queue_le {r : EventRecord} {e : Events} (h : e.queue.length ≤ 32) :
    (takeRaising r e).queue.length ≤ 32 := by
  simp only [takeRaising]
  split
  · exact h
  · exact offerRecord_queue_le h

theorem placeRecord_mask (r : EventRecord) (e : Events) : (placeRecord r e).mask = e.mask := by
  unfold placeRecord; split <;> rfl

theorem raiseEventsLost_mask (tag : BitVec 24) (offset : BitVec 16) (e : Events) :
    (raiseEventsLost tag offset e).mask = e.mask := by
  simp only [raiseEventsLost]; split
  · rfl
  · exact placeRecord_mask _ _

theorem offerRecord_mask (tag : BitVec 24) (offset : BitVec 16) (r : EventRecord) (e : Events) :
    (offerRecord tag offset r e).mask = e.mask := by
  unfold offerRecord; split
  · rfl
  · rw [placeRecord_mask]; split
    · rfl
    · exact raiseEventsLost_mask _ _ _

/-- R172: a raising leaves the mask. -/
theorem takeRaising_mask (r : EventRecord) (e : Events) : (takeRaising r e).mask = e.mask := by
  simp only [takeRaising]; split
  · rfl
  · exact offerRecord_mask _ _ _ _

/-- R172: an unmasked raising that finds room, with no record lost before it, stands at the newest end. -/
theorem takeRaising_room {r : EventRecord} {e : Events} (hm : isMasked r.kind e = false)
    (hl : e.lost = 0) (hq : e.queue.length < 32) :
    takeRaising r e = { e with seen := e.seen ||| kindBit r.kind, queue := e.queue ++ [r] } := by
  have hm' : isMasked r.kind (seeKind r.kind e) = false := hm
  simp only [takeRaising, hm', Bool.false_eq_true, if_false]
  simp [offerRecord, seeKind, Config.queueMax, hl, placeRecord, hq, Nat.not_le.mpr hq]

/-- R172: a masked raising replaces the kept record of its kind and queues nothing. -/
theorem takeRaising_masked {r : EventRecord} {e : Events} (hm : isMasked r.kind e = true) :
    takeRaising r e =
      { e with seen := e.seen ||| kindBit r.kind, kept := e.kept.set (kindNum r.kind) (some r) } := by
  have hm' : isMasked r.kind (seeKind r.kind e) = true := hm
  simp only [takeRaising, hm', if_true]
  rfl

end Sys2Proof.Machine
end

