-- ==== Sys2Proof/Laws/Inner.lean ====
section
/-! SUPPORT. What a read of table memory, a fault and the closing of a context can change, said once. -/

namespace Sys2Proof.Machine

open Sys2Proof.Safety

/-- What the reads, the faults and the closes leave: whole units, and the invariants of the others. -/
structure Inner (s t : State) : Prop where
  pending : t.pending = s.pending
  power : t.power = s.power
  link : t.link = s.link
  stream : t.stream = s.stream
  film : t.film = s.film
  tracker : t.tracker = s.tracker
  canc : t.canc = s.canc
  lastOut : t.lastOut = s.lastOut
  hiss : t.hiss = s.hiss
  cmd : t.cmd = s.cmd
  tx : t.tx = s.tx
  store : t.store = s.store
  out : t.out = s.out
  upset : t.upset = s.upset
  bank0 : t.tables.bank0 = s.tables.bank0
  bank1 : t.tables.bank1 = s.tables.bank1
  active : t.tables.active = s.tables.active
  other : t.tables.other = s.tables.other
  pendingX : t.tables.pendingX = s.tables.pendingX
  ring : t.ring.map recordKey = s.ring.map recordKey
  det : ∀ ch, (t.det.get ch).level = (s.det.get ch).level ∧
    (t.det.get ch).spliceCount = (s.det.get ch).spliceCount ∧
    (t.det.get ch).commandCount = (s.det.get ch).commandCount ∧
    (t.det.get ch).maxLenEff = (s.det.get ch).maxLenEff
  mask : t.events.mask = s.events.mask
  queue : s.events.queue.length ≤ 32 → t.events.queue.length ≤ 32
  raised : RaisedAfter s.events t.events
  log : LogSound s.log → LogSound t.log
  fault : (s.fault.double = true ↔ s.fault.mode = .latched) → (t.fault.double = true ↔ t.fault.mode = .latched)
  latched : s.fault.mode = .latched → t.fault.mode = .latched
  capture : s.fault.capture.isSome = true → t.fault.capture = s.fault.capture

/-- No raising. -/
theorem raisedAfter_refl (e : Events) : RaisedAfter e e := ⟨[], rfl⟩

/-- One raising. -/
theorem raisedAfter_one (r : EventRecord) (e : Events) : RaisedAfter e (takeRaising r e) := ⟨[r], rfl⟩

/-- Raisings after raisings. -/
theorem raisedAfter_trans {a b c : Events} (h : RaisedAfter a b) (k : RaisedAfter b c) : RaisedAfter a c := by
  obtain ⟨rs, rfl⟩ := h
  obtain ⟨qs, rfl⟩ := k
  exact ⟨rs ++ qs, by rw [List.foldl_append]⟩

theorem Inner.refl (s : State) : Inner s s := by
  constructor <;> first | exact raisedAfter_refl _ | simp

theorem Inner.trans {s t u : State} (a : Inner s t) (b : Inner t u) : Inner s u where
  pending := b.pending.trans a.pending
  power := b.power.trans a.power
  link := b.link.trans a.link
  stream := b.stream.trans a.stream
  film := b.film.trans a.film
  tracker := b.tracker.trans a.tracker
  canc := b.canc.trans a.canc
  lastOut := b.lastOut.trans a.lastOut
  hiss := b.hiss.trans a.hiss
  cmd := b.cmd.trans a.cmd
  tx := b.tx.trans a.tx
  store := b.store.trans a.store
  out := b.out.trans a.out
  upset := b.upset.trans a.upset
  bank0 := b.bank0.trans a.bank0
  bank1 := b.bank1.trans a.bank1
  active := b.active.trans a.active
  other := b.other.trans a.other
  pendingX := b.pendingX.trans a.pendingX
  ring := b.ring.trans a.ring
  det := fun ch => ⟨(b.det ch).1.trans (a.det ch).1, (b.det ch).2.1.trans (a.det ch).2.1,
    (b.det ch).2.2.1.trans (a.det ch).2.2.1, (b.det ch).2.2.2.trans (a.det ch).2.2.2⟩
  mask := b.mask.trans a.mask
  queue := fun h => b.queue (a.queue h)
  raised := raisedAfter_trans a.raised b.raised
  log := fun h => b.log (a.log h)
  fault := fun h => b.fault (a.fault h)
  latched := fun h => b.latched (a.latched h)
  capture := fun h => by
    have h1 := a.capture h
    rw [← h1]; exact b.capture (by rw [h1]; exact h)

theorem inner_raise (k : EventKind) (ch : Option Channel) (p : Option (BitVec 32)) (s : State) :
    Inner s (raise k ch p s) := by
  constructor <;> first | rfl | (intro h; exact h) | exact raisedAfter_refl _ | skip
  · intro c; exact ⟨rfl, rfl, rfl, rfl⟩
  · exact takeRaising_mask _ _
  · exact takeRaising_queue_le
  · exact raisedAfter_one _ _
  · intro _; rfl

/-- An operation on the channels in turn changes no more than the operation on each. -/
theorem inner_eachChannel {f : Channel → State → State} (h : ∀ c s, Inner s (f c s)) (s : State) :
    Inner s (eachChannel f s) :=
  (((h _ _).trans (h _ _)).trans (h _ _)).trans (h _ _)

/-! ### The log -/

theorem inner_setLog {l : DefectLog} (s : State) (h : LogSound s.log → LogSound l) : Inner s (s.setLog l) := by
  constructor <;> first | rfl | (intro h; exact h) | exact raisedAfter_refl _ | skip
  · intro c; exact ⟨rfl, rfl, rfl, rfl⟩
  · exact h
  · intro _; rfl

theorem inner_setCounters (c : Counters) (s : State) : Inner s (s.setCounters c) := by
  constructor <;> first | rfl | (intro h; exact h) | exact raisedAfter_refl _ | skip
  · intro c; exact ⟨rfl, rfl, rfl, rfl⟩
  · intro _; rfl

theorem inner_setWork (w : Work) (s : State) : Inner s (s.setWork w) := by
  constructor <;> first | rfl | (intro h; exact h) | exact raisedAfter_refl _ | skip
  · intro c; exact ⟨rfl, rfl, rfl, rfl⟩
  · intro _; rfl

/-- A detector replaced by one with the same level, countdowns and max_len_eff. -/
theorem inner_setDetector (c : Channel) (d : Detector) (s : State)
    (h : d.level = (s.det.get c).level ∧ d.spliceCount = (s.det.get c).spliceCount ∧
      d.commandCount = (s.det.get c).commandCount ∧ d.maxLenEff = (s.det.get c).maxLenEff) :
    Inner s (setDetector c d s) := by
  constructor <;> first | rfl | (intro h; exact h) | exact raisedAfter_refl _ | skip
  · intro e
    rw [setDetector_det, Quad.get_set]
    by_cases he : e = c
    · subst he; simpa using h
    · simp [he]
  · intro _; rfl

theorem inner_setRing (ring : List FrameRecord) (s : State) (h : ring.map recordKey = s.ring.map recordKey) :
    Inner s (s.setRing ring) := by
  constructor <;> first | rfl | (intro h; exact h) | exact raisedAfter_refl _ | skip
  · exact h
  · intro c; exact ⟨rfl, rfl, rfl, rfl⟩
  · intro _; rfl

theorem logSlot_write (l : DefectLog) (i j : BitVec 8) (e : LogEntry) :
    logSlot (writeSlot i e l) j = if j = i then some e else logSlot l j := by
  unfold logSlot writeSlot
  by_cases h : j = i
  · subst h; simp
  · have h' : i.toNat ≠ j.toNat := fun hh => h (BitVec.eq_of_toNat_eq hh.symm)
    simp [h, h']

/-- Rewriting a slot with an entry keeps the log sound. -/
theorem logSound_writeSlot {l : DefectLog} (i : BitVec 8) (e : LogEntry) (h : LogSound l) :
    LogSound (writeSlot i e l) := by
  refine ⟨h.1, h.2.1, fun k hk => ?_⟩
  rw [logSlot_write]
  split
  · rfl
  · exact h.2.2 k hk

theorem inner_dropLogIndex (c : Channel) (s : State) : Inner s (dropLogIndex c s) :=
  inner_setDetector _ _ _ ⟨rfl, rfl, rfl, rfl⟩

/-- R114: completing an entry in place. -/
theorem inner_completeEntry (i : BitVec 8) (o : DefectOutcome) (c : Context) (s : State) :
    Inner s (completeEntry i o c s) := by
  unfold completeEntry
  split
  · exact Inner.refl _
  · exact inner_setLog _ (logSound_writeSlot _ _)

theorem logSound_discard {l : DefectLog} (hu : l.unread = 256) (h : LogSound l) :
    LogSound { l with readIdx := l.readIdx + 1, unread := 255 } := by
  obtain ⟨_, h2, h3⟩ := h
  refine ⟨by simp, ?_, fun k hk => ?_⟩
  · simp only [h2, hu]; bv_omega
  · have := h3 (k + 1) (by simp at hk; omega)
    have e : l.readIdx + BitVec.ofNat 8 (k + 1) = l.readIdx + 1 + BitVec.ofNat 8 k := by
      rw [BitVec.ofNat_add]; ac_rfl
    rw [e] at this; exact this

theorem logSound_overrun {l : DefectLog} (b : Bool) (h : LogSound l) :
    LogSound { l with overrunReported := b } := h

theorem logSound_append {l : DefectLog} (e : LogEntry) (hu : l.unread < 256) (h : LogSound l) :
    LogSound { writeSlot l.writeIdx e l with
      writeIdx := l.writeIdx + 1, unread := l.unread + 1, appended := true } := by
  obtain ⟨_, h2, h3⟩ := h
  refine ⟨by simp; omega, ?_, fun k hk => ?_⟩
  · simp only [writeSlot, h2, BitVec.ofNat_add]; ac_rfl
  · have : logSlot (writeSlot l.writeIdx e l) (l.readIdx + BitVec.ofNat 8 k) =
        if l.readIdx + BitVec.ofNat 8 k = l.writeIdx then some e else logSlot l (l.readIdx + BitVec.ofNat 8 k) :=
      logSlot_write _ _ _ _
    change (logSlot (writeSlot l.writeIdx e l) (l.readIdx + BitVec.ofNat 8 k)).isSome = true
    rw [this]
    split
    · rfl
    · rename_i hne
      apply h3
      have hk' : k < l.unread + 1 := hk
      by_contra hc
      have : k = l.unread := by omega
      subst this
      exact hne h2.symm

theorem inner_overrunMark (p : Option (BitVec 32)) (s : State) :
    Inner s (if s.log.overrunReported then s
      else raise .logOverrun none p (s.setLog { s.log with overrunReported := true })) := by
  split
  · exact Inner.refl _
  · exact (inner_setLog _ (logSound_overrun true)).trans (inner_raise _ _ _ _)

/-- R115, R116: discarding the oldest unread entry of a full log. -/
theorem inner_discardOldest (s : State) (hu : s.log.unread = 256) : Inner s (discardOldest s) := by
  have h1 : Inner s (countLogLost (s.setLog { s.log with readIdx := s.log.readIdx + 1, unread := 255 })) :=
    (inner_setLog s (logSound_discard hu)).trans (inner_setCounters _ _)
  have h3 := fun p => h1.trans (inner_overrunMark p _)
  simp only [discardOldest]
  split
  · rename_i e _
    by_cases ho : e.outcome = .stillOpen
    · rw [if_pos ho]; exact (h3 _).trans (inner_dropLogIndex _ _)
    · rw [if_neg ho]; exact h3 _
  · exact h3 _

theorem overrunMark_unread (p : Option (BitVec 32)) (s : State) :
    (if s.log.overrunReported then s
      else raise .logOverrun none p (s.setLog { s.log with overrunReported := true })).log.unread
      = s.log.unread := by
  split <;> rfl

/-- After a discard the log has 255 unread entries. -/
theorem discardOldest_unread (s : State) : (discardOldest s).log.unread = 255 := by
  simp only [discardOldest, dropLogIndex]
  split
  · rename_i e _
    by_cases ho : e.outcome = .stillOpen
    · rw [if_pos ho]; exact overrunMark_unread _ _
    · rw [if_neg ho]; exact overrunMark_unread _ _
  · exact overrunMark_unread _ _

/-- R115 to R117: what an append can change. -/
theorem inner_appendEntry (e : LogEntry) (s : State) : Inner s (appendEntry e s) := by
  have key : ∀ t : State, Inner s t → (LogSound s.log → t.log.unread < 256) →
      ∀ u : State, Inner t u → u.log = writeSlot t.log.writeIdx e t.log →
      Inner s (u.setLog { u.log with
        writeIdx := t.log.writeIdx + 1, unread := u.log.unread + 1, appended := true }) := by
    intro t hst hlt u htu hul
    have hsu := hst.trans htu
    have hf := inner_setLog (l := { u.log with
      writeIdx := t.log.writeIdx + 1, unread := u.log.unread + 1, appended := true }) u
    by_cases hs : LogSound s.log
    · refine hsu.trans (hf fun _ => ?_)
      rw [hul]
      exact logSound_append e (hlt hs) (hst.log hs)
    · have h := hsu.trans (inner_setLog (l := u.log) u id)
      exact { h with log := fun hh => absurd hh hs }
  simp only [appendEntry]
  split
  · rename_i hu
    refine key (discardOldest s) (inner_discardOldest s hu) (fun _ => ?_) _ ?_ ?_
    · rw [discardOldest_unread]; omega
    · split
      · exact (inner_setLog _ (logSound_writeSlot _ _)).trans (inner_raise _ _ _ _)
      · split
        · exact (inner_setLog _ (logSound_writeSlot _ _)).trans (inner_raise _ _ _ _)
        · exact inner_setLog _ (logSound_writeSlot _ _)
    · split
      · rfl
      · split <;> rfl
  · rename_i hu
    refine key s (Inner.refl s) (fun h => ?_) _ ?_ ?_
    · have := h.1; have : s.log.unread ≠ 256 := hu; omega
    · split
      · exact (inner_setLog _ (logSound_writeSlot _ _)).trans (inner_raise _ _ _ _)
      · split
        · exact (inner_setLog _ (logSound_writeSlot _ _)).trans (inner_raise _ _ _ _)
        · exact inner_setLog _ (logSound_writeSlot _ _)
    · split
      · rfl
      · split <;> rfl

/-- R114: what the record of a close can change. -/
theorem inner_recordClose (ch : Channel) (o : DefectOutcome) (c : Context) (m : Nat) (s : State) :
    Inner s (recordClose ch o c m s) := by
  unfold recordClose
  split
  · exact inner_completeEntry _ _ _ _
  · split
    · exact inner_appendEntry _ _
    · exact Inner.refl _

/-! ### The ring and the repair unit -/

theorem recordKey_setEntry (r : FrameRecord) (ch : Channel) (e : Entry)
    (hp : e.perfBin = (r.entries.get ch).perfBin) (hm : e.mainsBin = (r.entries.get ch).mainsBin) :
    recordKey { r with entries := r.entries.set ch e } = recordKey r := by
  simp only [recordKey, Prod.mk.injEq, true_and]
  apply Quad.ext_get
  intro c
  rw [Quad.get_build, Quad.get_build, Quad.get_set]
  by_cases h : c = ch
  · subst h; simp [hp, hm]
  · simp [h]

/-- Rewriting one channel's value and flags of a record keeps what R29 says is kept. -/
theorem map_recordKey_ringUpdate (p : Serial) (ch : Channel) (f : Entry → Entry) (ring : List FrameRecord)
    (h : ∀ e, (f e).perfBin = e.perfBin ∧ (f e).mainsBin = e.mainsBin) :
    (ringUpdate p ch f ring).map recordKey = ring.map recordKey := by
  simp only [ringUpdate, List.map_map]
  apply List.map_congr_left
  intro r _
  simp only [Function.comp]
  split
  · exact recordKey_setEntry _ _ _ (h _).1 (h _).2
  · rfl

theorem map_recordKey_fillRing (ch : Channel) (first : Serial) (g : Nat) (v : Nat → Sample) (held : Bool)
    (ring : List FrameRecord) : (fillRing ch first g v held ring).map recordKey = ring.map recordKey := by
  simp only [fillRing, List.map_map]
  apply List.map_congr_left
  intro r _
  simp only [Function.comp]
  split
  · exact recordKey_setEntry _ _ _ rfl rfl
  · rfl

theorem map_recordKey_fillDefect (ch : Channel) (first last : Serial) (a b : Option Sample)
    (ring : List FrameRecord) : (fillDefect ch first last a b ring).map recordKey = ring.map recordKey := by
  unfold fillDefect
  split <;> first | exact map_recordKey_fillRing _ _ _ _ _ _ | rfl

theorem inner_readAnchor (ch : Channel) (p : Serial) (c : Option Cell) (s : State) :
    Inner s (readAnchor ch p c s) := by
  unfold readAnchor
  split
  · split
    · exact Inner.refl _
    · exact (inner_setRing _ _ (map_recordKey_ringUpdate p ch markMemory _ fun _ => ⟨rfl, rfl⟩)).trans
        (inner_raise _ _ _ _)
  · exact Inner.refl _

/-- R96: what a repair can change. -/
theorem inner_repair (ch : Channel) (first last : Serial) (sp : Span) (s : State) :
    Inner s (repair ch first last sp s) := by
  simp only [repair]
  exact ((inner_readAnchor _ _ _ _).trans (inner_readAnchor _ _ _ _)).trans
    (inner_setRing _ _ (map_recordKey_fillDefect _ _ _ _ _ _))

/-! ### Reads, faults and closes -/

theorem inner_setFaultFlag (b : BankId) (v : Bool) (s : State) :
    Inner s (s.setTables (withTableFault s.tables b v)) := by
  cases b <;>
  · constructor <;> first | rfl | (intro h; exact h) | exact raisedAfter_refl _ | skip
    · intro c; exact ⟨rfl, rfl, rfl, rfl⟩
    · intro _; rfl

theorem inner_notePolicy (k : FaultKind) (s : State) : Inner s (notePolicy k s) := by
  unfold notePolicy
  split
  · exact Inner.refl _
  · exact inner_setFaultFlag _ _ _

/-- The fault unit's state replaced by one that keeps what `Inner` says of it. -/
theorem inner_setFault (f : FaultUnit) (s : State)
    (hf : (s.fault.double = true ↔ s.fault.mode = .latched) → (f.double = true ↔ f.mode = .latched))
    (hl : s.fault.mode = .latched → f.mode = .latched)
    (hc : s.fault.capture.isSome = true → f.capture = s.fault.capture) : Inner s (s.setFault f) := by
  constructor <;> first | rfl | (intro h; exact h) | exact raisedAfter_refl _ | skip
  · intro c; exact ⟨rfl, rfl, rfl, rfl⟩
  · exact hf
  · exact hl
  · exact hc

/-- R176, R177: what a fault can change, given what the effects of the mode leaving NORMAL can. -/
theorem inner_takeFaultWith {leave : State → State} (h : ∀ s, Inner s (leave s)) (k : FaultKind)
    (ch : Option Channel) (e : Option Engine) (s : State) : Inner s (takeFaultWith leave k ch e s) := by
  unfold takeFaultWith
  split
  · rename_i hnone
    have h1 : Inner s (s.setFault { s.fault with capture := some (captureOf s k ch e) }) :=
      inner_setFault _ _ id id (by simp [hnone])
    have h2 := h1.trans (inner_raise .fault ch (some (faultParam k e)) _)
    have h3 := h2.trans (inner_notePolicy k _)
    dsimp only
    split
    · rename_i hb
      refine h3.trans (Inner.trans ?_ (h _))
      have hm : (notePolicy k (raise .fault ch (some (faultParam k e))
          (s.setFault { s.fault with capture := some (captureOf s k ch e) }))).fault.mode = .normal := by
        unfold notePolicy; split <;> exact hb.2
      refine inner_setFault _ _ ?_ ?_ ?_
      · intro hh
        rw [hm] at hh
        simp at hh
        simp [hh]
      · intro hh; rw [hm] at hh; cases hh
      · intro _; rfl
    · exact h3
  · rename_i c hsome
    dsimp only
    set s1 := withMode .latched s with hs1
    have hs1l : s1.fault.mode = .latched := rfl
    set s2 := (if s.fault.mode = .normal then leave s1 else s1) with hs2
    have h12 : Inner s1 s2 := by
      rw [hs2]; split
      · exact h _
      · exact Inner.refl _
    have hl2 : s2.fault.mode = .latched := h12.latched hs1l
    set s3 := s2.setFault { s2.fault with double := true } with hs3
    have hcap : s3.fault.capture = s.fault.capture := h12.capture (by rw [hs1]; simp [withMode, hsome])
    have hfin : Inner s s3 := by
      have h13 : Inner { s1 with fault := s3.fault } s3 :=
        { pending := h12.pending, power := h12.power, link := h12.link, stream := h12.stream,
          film := h12.film, tracker := h12.tracker, canc := h12.canc, lastOut := h12.lastOut,
          hiss := h12.hiss, cmd := h12.cmd, tx := h12.tx, store := h12.store, out := h12.out, upset := h12.upset,
          bank0 := h12.bank0, bank1 := h12.bank1, active := h12.active, other := h12.other,
          pendingX := h12.pendingX, ring := h12.ring, det := h12.det, mask := h12.mask,
          queue := h12.queue, raised := h12.raised, log := h12.log, fault := id, latched := id, capture := fun _ => rfl }
      refine Inner.trans ?_ h13
      have : Inner s (s.setFault s3.fault) :=
        inner_setFault _ _ (fun _ => by simp [hs3, hl2]) (fun _ => by simp [hs3, hl2]) (fun _ => hcap)
      exact this
    exact hfin.trans (inner_raise _ _ _ _)

/-- R150: what a read of table memory can change, given what a fault can. -/
theorem inner_noteWith {take : FaultKind → Option Channel → Option Engine → State → State}
    (h : ∀ k ch e s, Inner s (take k ch e s)) (b : BankId) (r : FieldRef) (s : State) :
    Inner s (noteWith take b r s) := by
  unfold noteWith
  split
  · exact Inner.refl _
  · split
    · exact Inner.refl _
    · exact (inner_setFaultFlag _ _ _).trans (h _ _ _ _)

theorem inner_emptyHistories (s : State) : Inner s (emptyHistories s) := by
  constructor <;> first | rfl | (intro h; exact h) | exact raisedAfter_refl _ | skip
  · intro c; simp [emptyHistories]
  · intro _; rfl

/-- R150: what a read made within a close can change. -/
theorem inner_noteInner (b : BankId) (r : FieldRef) (s : State) : Inner s (noteInner b r s) :=
  inner_noteWith (inner_takeFaultWith Inner.refl) b r s

/-- R89: what one close, with its log action, can change. -/
theorem inner_closeOne (ch : Channel) (spanLast : Serial) (s : State) : Inner s (closeOne ch spanLast s) := by
  unfold closeOne
  split
  · exact Inner.refl _
  · rename_i c _
    dsimp only
    refine Inner.trans ?_ (inner_setDetector _ _ _ ⟨rfl, rfl, rfl, rfl⟩)
    refine Inner.trans ?_ (inner_recordClose _ _ _ _ _)
    refine Inner.trans ?_ (inner_noteInner _ _ _)
    split
    · exact Inner.refl _
    · exact inner_repair _ _ _ _ _

/-- R91, R178: what the forced closes of the mode leaving NORMAL can change. -/
theorem inner_bypassCloses (s : State) : Inner s (bypassCloses s) :=
  Inner.trans (inner_eachChannel (fun _ _ => inner_closeOne _ _ _) s) (inner_emptyHistories _)

theorem inner_leaveNormal (s : State) : Inner s (leaveNormal s) := by
  unfold leaveNormal
  split
  · exact inner_setWork _ _
  · exact inner_bypassCloses _

/-- R176, R177: what a fault can change. -/
theorem inner_takeFault (k : FaultKind) (ch : Option Channel) (e : Option Engine) (s : State) :
    Inner s (takeFault k ch e s) := inner_takeFaultWith inner_leaveNormal _ _ _ _

/-- R150: what a stage's read of table memory can change. -/
theorem inner_note (b : BankId) (r : FieldRef) (s : State) : Inner s (note b r s) :=
  inner_noteWith inner_takeFault b r s

/-- R150: what a stage's read of the active bank can change. -/
theorem inner_noteActive (r : FieldRef) (s : State) : Inner s (noteActive r s) := inner_note _ _ _

/-- R150: a read of a field that passes its check changes nothing. -/
theorem note_sound {b : BankId} {r : FieldRef} {s : State} (h : fieldOk (storedField s b r) = true) :
    note b r s = s := by
  unfold note noteWith
  rw [if_pos h]

/-- R89, R91: what the closing of a context can change. -/
theorem inner_closeContext (ch : Channel) (spanLast : Serial) (s : State) :
    Inner s (closeContext ch spanLast s) := by
  unfold closeContext
  dsimp only
  split
  · exact (inner_closeOne _ _ _).trans (inner_leaveNormal _)
  · exact inner_closeOne _ _ _

/-- R89: what a normal close can change. -/
theorem inner_normalCloseStep (ch : Channel) (s : State) : Inner s (normalCloseStep ch s) := by
  unfold normalCloseStep
  split
  · split
    · exact inner_closeContext _ _ _
    · exact Inner.refl _
  · exact Inner.refl _

theorem inner_endAdmission (s : State) : Inner s (endAdmission s) := by
  unfold endAdmission
  dsimp only
  split
  · exact (inner_setWork _ _).trans (inner_bypassCloses _)
  · exact inner_setWork _ _

/-! ### Values upset before the detector reads them -/

@[simp] theorem upsetCell_false (c : Cell) : upsetCell false c = c := by simp [upsetCell]

/-- A record is placed as it was formed where no value is upset. -/
@[simp] theorem upsetRecord_none (r : FrameRecord) : upsetRecord (Quad.all false) r = r := by
  obtain ⟨a, b, c, d, e, f, ⟨e0, e1, e2, e3⟩⟩ := r
  simp [upsetRecord, Quad.build, Quad.all, Quad.get, upsetCell]

/-- An upset value changes nothing of what names a record. -/
@[simp] theorem recordKey_upsetRecord (u : Quad Bool) (r : FrameRecord) :
    recordKey (upsetRecord u r) = recordKey r := by
  simp [recordKey, upsetRecord, Quad.build, Quad.get]

end Sys2Proof.Machine
end

