-- ==== Sys2Proof/Laws/Commands.lean ====
section
/-! SUPPORT. What a command's row comes to where it is executed, and what sound tables make of the reads. -/

namespace Sys2Proof.Machine

open Sys2Proof.Safety

/-- R168: the code of a command is that command's. -/
@[simp] theorem cmdOf_code (c : CmdCode) : cmdOf c.code = some c := by
  cases c <;> decide

/-- Each command's row is the close of its message. -/
theorem exec_command (c : CmdCode) (p : List Word) (s : State) :
    exec (instrOfCommand c p) s = .next (commandStep c p s) := by
  cases c <;> rfl

/-- R158, R159: where the part serves and the reply buffer has room, a sound message is executed. -/
theorem commandStep_ready {c : CmdCode} {p : List Word} {s : State} (h : Ready s) (hp : p.length ≤ 63) :
    commandStep c p s = runCommand c p (endAssembly s) := by
  obtain ⟨hs, hr⟩ := h
  simp only [State.serving, Bool.and_eq_true, Bool.not_eq_true'] at hs
  have hl : (BitVec.ofNat 8 p.length).toNat = p.length := by
    rw [BitVec.toNat_ofNat]; exact Nat.mod_eq_of_lt (by omega)
  have hb : (endAssembly s).booting = false := hs.2
  have hr' : ¬ (Config.replyMax ≤ (endAssembly s).cmd.replies.length) := by
    simp only [endAssembly, State.setCmd_cmd, Config.replyMax]; omega
  simp [commandStep, hs.1, closeMessage, soundMessage, hl, hb, hr', Config.bodyMax, Nat.not_lt.mpr hp]

/-- R158, R159: a command where it is executed. -/
theorem exec_ready {c : CmdCode} {p : List Word} {s : State} (h : Ready s) (hp : p.length ≤ 63) :
    exec (instrOfCommand c p) s = .next (runCommand c p (endAssembly s)) := by
  rw [exec_command, commandStep_ready h hp]

/-- A reply placed once the assembly has ended. -/
theorem reply_endAssembly (c : CmdCode) (st : Status) (data : List Word) (s : State) :
    reply c st data (endAssembly s) = afterReply s c.code (statusWord st 0 :: data) := rfl

/-- R150: with sound tables a read of a bank changes nothing. -/
theorem note_of_sound {s : State} (h : SoundTables s) (b : BankId) (r : FieldRef) : note b r s = s :=
  note_sound (h b r)

/-- R150: with sound tables a read of the active bank changes nothing. -/
theorem noteActive_of_sound {s : State} (h : SoundTables s) (r : FieldRef) : noteActive r s = s :=
  note_sound (h _ r)

/-- R150: a reading of the active bank's field that is not its default shows that the field is sound. -/
theorem noteActive_of_setting {s : State} {r : FieldRef} {n : Nat} (h : activeSetting s r = n)
    (hd : (fieldSpec r).dflt ≠ n) : noteActive r s = s := by
  apply note_sound
  by_contra hc
  apply hd
  rw [← h]
  simp [activeSetting, setting, fieldRead, hc]

end Sys2Proof.Machine
end

