-- ==== Sys2Proof/Laws/PerInstr.lean ====
section
/-! SUPPORT. The family CommandCode: the code and payload of a command's message spell the command (R168),
one lemma for each constructor of Instr. -/

namespace Sys2Proof.Laws.CommandCode

open Sys2Proof

/-- Where a step is a command, its code and its payload spell it. -/
def Statement (i : Instr) : Prop :=
  ∀ (c : CmdCode) (p : List Word), i.message = some (c, p) → decodeMessage c.code p = some i

theorem arrival (bits : BitVec 127) : Statement (.arrival bits) := by
  intro c p h; cases h

theorem armedStartTaken (marker : Marker) (samples : Quad Sample) : Statement (.armedStartTaken marker samples) := by
  intro c p h; cases h

theorem perfMiss : Statement .perfMiss := by
  intro c p h; cases h

theorem normalClose (ch : Channel) : Statement (.normalClose ch) := by
  intro c p h; cases h

theorem retirementEnd : Statement .retirementEnd := by
  intro c p h; cases h

theorem drainEnd : Statement .drainEnd := by
  intro c p h; cases h

theorem linkLost : Statement .linkLost := by
  intro c p h; cases h

theorem pendingExchange (trigger : Trigger) : Statement (.pendingExchange trigger) := by
  intro c p h; cases h

theorem messageSent : Statement .messageSent := by
  intro c p h; cases h

theorem queryStatus (payload : List Word) : Statement (.queryStatus payload) := by
  intro c p h; cases h; rfl

theorem readCounters (payload : List Word) : Statement (.readCounters payload) := by
  intro c p h; cases h; rfl

theorem clearCounters (payload : List Word) : Statement (.clearCounters payload) := by
  intro c p h; cases h; rfl

theorem writeTable (payload : List Word) : Statement (.writeTable payload) := by
  intro c p h; cases h; rfl

theorem readTable (payload : List Word) : Statement (.readTable payload) := by
  intro c p h; cases h; rfl

theorem swapBanks (payload : List Word) : Statement (.swapBanks payload) := by
  intro c p h; cases h; rfl

theorem cancelSwap (payload : List Word) : Statement (.cancelSwap payload) := by
  intro c p h; cases h; rfl

theorem startStream (payload : List Word) : Statement (.startStream payload) := by
  intro c p h; cases h; rfl

theorem stopStream (payload : List Word) : Statement (.stopStream payload) := by
  intro c p h; cases h; rfl

theorem resume (payload : List Word) : Statement (.resume payload) := by
  intro c p h; cases h; rfl

theorem setFrameTag (payload : List Word) : Statement (.setFrameTag payload) := by
  intro c p h; cases h; rfl

theorem forceDefect (payload : List Word) : Statement (.forceDefect payload) := by
  intro c p h; cases h; rfl

theorem readLog (payload : List Word) : Statement (.readLog payload) := by
  intro c p h; cases h; rfl

theorem readTemplate (payload : List Word) : Statement (.readTemplate payload) := by
  intro c p h; cases h; rfl

theorem loadTemplate (payload : List Word) : Statement (.loadTemplate payload) := by
  intro c p h; cases h; rfl

theorem setEventMask (payload : List Word) : Statement (.setEventMask payload) := by
  intro c p h; cases h; rfl

theorem readEventSummary (payload : List Word) : Statement (.readEventSummary payload) := by
  intro c p h; cases h; rfl

theorem ackFault (payload : List Word) : Statement (.ackFault payload) := by
  intro c p h; cases h; rfl

theorem storeProfile (payload : List Word) : Statement (.storeProfile payload) := by
  intro c p h; cases h; rfl

theorem recallProfile (payload : List Word) : Statement (.recallProfile payload) := by
  intro c p h; cases h; rfl

theorem softReset (payload : List Word) : Statement (.softReset payload) := by
  intro c p h; cases h; rfl

theorem hardReset : Statement .hardReset := by
  intro c p h; cases h

theorem powerUp : Statement .powerUp := by
  intro c p h; cases h

theorem hardResetRelease : Statement .hardResetRelease := by
  intro c p h; cases h

theorem bootRecallDone : Statement .bootRecallDone := by
  intro c p h; cases h

theorem storeEraseEnd : Statement .storeEraseEnd := by
  intro c p h; cases h

theorem storeDone : Statement .storeDone := by
  intro c p h; cases h

theorem recallDone : Statement .recallDone := by
  intro c p h; cases h

theorem powerDown : Statement .powerDown := by
  intro c p h; cases h

end Sys2Proof.Laws.CommandCode
end

