-- ==== Sys2Proof/WellFormed.lean ====
section
/-! DEFINITION. Which terms of `Instr` are steps the part can meet. Every operand but a payload is typed
so that each of its values is one the spec gives; a payload is what a message can carry. -/

namespace Sys2Proof

/-- R156: a message has 0 to 63 BODY words. -/
def payloadFits (payload : List Word) : Bool := decide (payload.length ≤ Config.bodyMax)

/-- A step is well formed when its message, if it is a command, is one that the link can carry. -/
def Instr.wellFormed (i : Instr) : Bool :=
  match i.message with
  | some (_, payload) => payloadFits payload
  | none => true

end Sys2Proof
end

