-- ==== Sys2Proof/Tests/Slice0.lean ====
section
/-! SUPPORT. The model's own tests: the ill-formed terms, words and values that the spec writes out, and a
state that meets the hypotheses of each statement. -/

namespace Sys2Proof.Tests

-- One theorem after another: many kernel evaluations at a time ask for more threads than a limited process has.
set_option Elab.async false

open Sys2Proof.Machine Sys2Proof.Safety

/-! ### Helpers -/

/-- The next state of an outcome. -/
def after (o : Host.Outcome State Fault Refusal) : State :=
  match o with
  | .next t => t
  | .fault _ => State.reset
  | .refused _ => State.reset

/-- A field of a bank written afresh. -/
def setField (b : BankId) (r : FieldRef) (v : Nat) (s : State) : State :=
  let t := bankOf s.tables b
  let f := freshField (BitVec.ofNat 32 v)
  s.setTables (withBank s.tables b (match r with
    | .stream i => { t with stream := t.stream.set i.idx f }
    | .chan ch i => { t with channel := t.channel.set ch ((t.channel.get ch).set i.idx f) }
    | .gain ch i => { t with gain := t.gain.set ch ((t.gain.get ch).set i f) }))

/-- A stored field whose parity bit has been turned over. -/
def spoilField (b : BankId) (i : StreamField) (s : State) : State :=
  let t := bankOf s.tables b
  let f := t.stream[i.idx]
  s.setTables (withBank s.tables b { t with stream := t.stream.set i.idx { f with par := !f.par } })

/-- A channel's entry with a stored value, clean and with fresh parity. -/
def entryOf (v : Int) : Entry := { inactiveEntry with cell := freshCell (BitVec.ofInt 24 v) }

/-- A ring of consecutive records under bank 0 that hold these values on channel 0. -/
def ringOf (first : Serial) : List Int → List FrameRecord
  | [] => []
  | v :: vs =>
    ⟨first, .none, 0, 0, .b0, true, ⟨entryOf v, entryOf 0, entryOf 0, entryOf 0⟩⟩ :: ringOf (first + 1) vs

/-- The reset state with a ring that holds these values in a stream state. -/
def reelOf (st : StreamState) (vs : List Int) : State :=
  (State.reset.setStream ⟨st, false, 64, BitVec.ofNat 32 vs.length⟩).setRing (ringOf 0 vs)

/-- RUNNING with a full ring of 64 records. -/
def running : State := reelOf .running (List.replicate 64 5)

/-- The status words of the replies that stand in the buffer. -/
def statuses (s : State) : List Word := s.cmd.replies.map (fun r => r.body.getD 0 0)

/-! ### The reset state -/

/-- A check of every stored field. -/
def tablesPass (s : State) : Bool :=
  [BankId.b0, .b1].all fun b =>
    let t := bankOf s.tables b
    (List.finRange 14).all (fun i => fieldOk t.stream[i]) &&
    [Channel.ch0, .ch1, .ch2, .ch3].all fun ch =>
      (List.finRange 16).all fun i => fieldOk (t.channel.get ch)[i] && fieldOk (t.gain.get ch)[i]

theorem soundTables_of_pass {s : State} (h : tablesPass s = true) : SoundTables s := by
  intro b r
  simp only [tablesPass, List.all_eq_true, Bool.and_eq_true, List.mem_finRange, true_imp_iff] at h
  have hb := h b (by cases b <;> simp)
  cases r with
  | stream f => exact hb.1 f.idx
  | chan ch f => exact (hb.2 ch (by cases ch <;> simp) f.idx).1
  | gain ch i => exact (hb.2 ch (by cases ch <;> simp) i).2

theorem reset_soundTables : SoundTables State.reset := soundTables_of_pass (by decide +kernel)

theorem reset_tablesInRange : TablesInRange State.reset := by
  intro b r _
  cases b <;> cases r with
  | stream f => cases f <;> decide +kernel
  | chan ch f => cases ch <;> cases f <;> decide +kernel
  | gain ch i => cases ch <;> revert i <;> decide +kernel

theorem reset_soundCells : SoundCells State.reset := by
  refine ⟨fun r h => absurd h (by simp [State.reset]), fun ch e b => ?_⟩
  cases ch <;> cases e <;> revert b <;> decide +kernel

theorem reset_ready : Ready State.reset := by unfold Ready; decide +kernel

/-! ### Ill-formed terms (R156) -/

theorem test_wellFormed_refuses_64_words :
    (Instr.queryStatus (List.replicate 64 0)).wellFormed = false := by decide
theorem test_wellFormed_takes_63_words :
    (Instr.queryStatus (List.replicate 63 0)).wellFormed = true := by decide

/-! ### Words written out from R166 and R168 -/

theorem test_decode_idle_frame :
    parseFrame (0b10110001#8 ++ 0#1 ++ 0#3 ++ 0#96 ++ 0b01#2 ++ 0b0000000100000001#16 ++ 1#1)
      = some ⟨.idle, 0, Quad.all 0, .head, 257⟩ := by decide +kernel
theorem test_decode_sample_frame :
    parseFrame (0b10110001#8 ++ 1#1 ++ 0b011#3 ++ 1#24 ++ 0xFFFFFF#24 ++ 0#24 ++ 2#24 ++ 0b00#2 ++ 0#16 ++ 1#1)
      = some ⟨.sample, 3, ⟨1, -1, 0, 2⟩, .none, 0⟩ := by decide +kernel
theorem test_parity_error_is_bad :
    parseFrame (0b10110001#8 ++ 0#1 ++ 0#3 ++ 0#96 ++ 0b01#2 ++ 0b0000000100000001#16 ++ 0#1) = none := by
  decide +kernel
theorem test_decode_message_heads :
    (headCode 3329, headLength 3329) = (13, 1) ∧ (headCode 1792, headLength 1792) = (7, 0) ∧
    (headCode 1057, headLength 1057) = (4, 33) ∧ decodeMessage 7 [] = some (.cancelSwap []) := by
  decide +kernel

/-! ### Worked examples of the spec -/

/-- 01, 1.8: the first BAD slot of a reel admits a held record; the count is 1. -/
theorem test_arrival_bad_slot :
    (after (exec (.arrival 0) running)).link.badCount = 1 ∧
    ((after (exec (.arrival 0) running)).ring.getLast?.map (fun r => (r.serial, r.entries.c0.flags.link)))
      = some (64, true) := by decide +kernel

/-- 03, 3.5, c3: an armed start takes its slot; the record is serial 0 with the position before the count. -/
theorem test_armedStartTaken_first_record :
    let s := (State.reset.setStream ⟨.idle, true, 256, 9⟩).setFilm ⟨41, 7, 0⟩
    let t := after (exec (.armedStartTaken .none (Quad.all 3)) s)
    t.stream = ⟨.priming, false, 256, 1⟩ ∧
    t.ring.map (fun r => (r.serial, r.tag, r.offset)) = [(0, 41, 7)] ∧ t.film = ⟨41, 8, 0⟩ := by
  decide +kernel

/-- 03, 3.6, serial 2067: the miss places the reference at 62. -/
theorem test_perfMiss_2067 :
    let s := State.reset.setTracker ⟨.locked, 499, 561, 0, false⟩
    (after (exec .perfMiss s)).tracker = ⟨.coasting, 499, 62, 1, false⟩ := by decide +kernel

/-- 03, 3.6, serial 5310: with miss_limit 3 the third miss loses the lock. -/
theorem test_perfMiss_5310 :
    let s := setField .b0 (.stream .missLimit) 3 (State.reset.setTracker ⟨.coasting, 497, 559, 2, false⟩)
    let t := after (exec .perfMiss s)
    t.tracker = ⟨.lost, 497, 62, 3, false⟩ ∧
    (t.events.queue.getLast?.map (fun r => (r.kind, r.param))) = some (.perfLost, some 497) := by
  decide +kernel

/-- 03, 3.6, serials 1004 and 2998: P and Pm after an accepted interval. -/
theorem test_tracker_1004 :
    let s := State.reset.setTracker ⟨.locked, 500, 493, 0, false⟩
    let t := takeRecord .perf s
    (t.tracker.period, t.tracker.since, t.canc.mainsPeriod) = (499, 0, 959) := by decide +kernel

/-- 04, 4.6, release F: floor(−125 / 64) is −2. -/
theorem test_adapt_release_f :
    let s := (setField .b0 (.chan .ch0 .perfShift) 6 State.reset)
    let s := s.setCanc (writeBin .ch0 .perf 16 1525 s.canc)
    (binCell (adaptBin .b0 .ch0 .perf 16 (BitVec.ofInt 24 (-125)) s).canc .ch0 .perf 16).val = 1523 := by
  decide +kernel

/-- 04, 4.7: the sum 8,391,750 is clamped, and the fault names channel 1 and PERF. -/
theorem test_adapt_saturates :
    let s := setField .b0 (.chan .ch1 .perfShift) 4 State.reset
    let s := s.setCanc (writeBin .ch1 .perf 16 8388000 s.canc)
    let t := adaptBin .b0 .ch1 .perf 16 60000 s
    (binCell t.canc .ch1 .perf 16).val = 8388607 ∧
    t.fault.capture.map (fun c => (c.kind, c.channel, c.engine))
      = some (.templateSaturation, some .ch1, some .perf) := by decide +kernel

/-- 06, 6.5: the five lines of the table. -/
theorem test_interpolation_lines :
    [1, 2, 3, 4].map (interpolate 1000 (-200) 4) = [760, 520, 280, 40] ∧
    [1, 2, 3].map (interpolate 0 5 3) = [1, 3, 4] ∧ [1, 2, 3].map (interpolate 0 (-5) 3) = [-1, -2, -4] ∧
    [1, 2, 3].map (interpolate 1200 1600 3) = [1300, 1400, 1500] ∧ interpolate 7 10 1 1 = 9 := by
  decide +kernel

/-- 08, 8.8: the settings of the example. -/
def gentle : HissSettings :=
  ⟨3, 2, 9, 4096, 4, #v[1024, 2048, 3072, 4096, 4096, 4096, 4096, 4096, 4096, 4096, 4096, 4096, 4096,
    4096, 4096, 4096]⟩

/-- 08, 8.8: releases 1 to 4. -/
theorem test_hiss_releases :
    hissAfter gentle ⟨0, 0, 4096⟩ 800 = ⟨100, 175, 3904⟩ ∧ hissValue gentle ⟨0, 0, 4096⟩ 800 = 767 ∧
    hissAfter gentle ⟨100, 175, 3904⟩ 1200 = ⟨237, 372, 3724⟩ ∧
    hissAfter gentle ⟨237, 372, 3724⟩ (-600) = ⟨132, 462, 3555⟩ ∧
    hissValue gentle ⟨237, 372, 3724⟩ (-600) = -504 ∧
    hissAfter gentle ⟨132, 462, 3555⟩ 100 = ⟨128, 461, 3396⟩ ∧
    hissValue gentle ⟨132, 462, 3555⟩ 100 = 104 := by decide +kernel

/-- 08, 8.9: one step above the floor. -/
theorem test_hiss_above_floor :
    let c : HissSettings := ⟨3, 2, 9, 2000, 3, Vector.replicate 16 3072⟩
    hissAfter c ⟨3215, 9015, 2048⟩ 1500 = ⟨3000, 9000, 2176⟩ ∧ hissValue c ⟨3215, 9015, 2048⟩ 1500 = 2203 := by
  decide +kernel

/-- 11, 11.6, g5: EVENTS_LOST takes the one free place and the new record is dropped. -/
theorem test_queue_pressure_g5 :
    let e : Events := ⟨List.replicate 31 powerResetDone, 0, Vector.replicate 18 none, 0, 1⟩
    let r : EventRecord := ⟨.swapDone, none, 0, 0, some 1⟩
    ((takeRaising r e).queue.length, (takeRaising r e).lost) = (32, 1) ∧
    (takeRaising r e).queue.getLast?.map (fun x => (x.kind, x.param)) = some (.eventsLost, some 1) := by
  decide +kernel

/-- 11, 11.7, h9: RESET_DONE reports 42. -/
theorem test_softReset_42 :
    let s := running.setFault ⟨none, true, .latched⟩
    let t := after (exec (.softReset []) s)
    t.events.queue.getLast?.map (fun r => (r.kind, r.param)) = some (.resetDone, some 42) ∧
    t.fault = ⟨none, false, .normal⟩ ∧ statuses t = [0] := by decide +kernel

/-- 11, 11.7, h2 to h4: RESUME and ACK_FAULT. -/
theorem test_resume_and_ack :
    let c : Capture := ⟨.templateSaturation, some .ch1, some .perf, 0, 0, .running, .normal, .b0, false⟩
    let s := State.reset.setFault ⟨some c, false, .bypass⟩
    let t := after (exec (.ackFault []) s)
    statuses (after (exec (.resume []) s)) = [8] ∧ t.fault = ⟨none, false, .bypass⟩ ∧
    (after (exec (.resume []) t)).fault.mode = .normal := by decide +kernel

/-- 09, 9.7, h1: k 300 is clamped to 255, and field 5 is the first clamped. -/
theorem test_writeTable_clamps_k :
    let vs : List Nat := [0, 0, 0, 0, 300, 256, 32, 4, 8, 8, 3, 2, 9, 4, 4096, 0]
    let t := after (exec (.writeTable (1 :: vs.flatMap (fun v => [BitVec.ofNat 16 v, 0]))) State.reset)
    t.cmd.replies.map (fun r => r.body) = [[1 + 256 * 5, 1]] ∧
    setting t .b1 (.chan .ch0 .k) = 255 ∧ setting t .b0 (.chan .ch0 .k) = 96 := by decide +kernel

/-- 09, 9.7, h2 and h3: a second SWAP_BANKS is refused while one is pending; h70: CANCEL_SWAP ends it. -/
theorem test_swap_and_cancel :
    let t := after (exec (.swapBanks [1]) State.reset)
    let u := after (exec (.swapBanks [0]) t)
    t.tables.pendingX = some .nextFrame ∧ statuses u = [0, 7] ∧
    (after (exec (.cancelSwap []) t)).tables.pendingX = none := by decide +kernel

/-- 10, 10.6, u1 to u3: a BAD slot corrupts the message, and the CHECK is answered LINK_ERROR. -/
theorem test_framing_link_error :
    let s := takeControl (some (controlFrame .head 3329)) State.reset
    let s := takeControl none s
    let s := takeControl (some (controlFrame .check 3338)) s
    s.cmd.replies = [⟨13, [9]⟩] ∧ s.counters.refusedMsg = 1 := by decide +kernel

/-- 10, 10.6, u10 and u11: BAD_CHECK. -/
theorem test_framing_bad_check :
    let s := takeControl (some (controlFrame .head 1792)) State.reset
    (takeControl (some (controlFrame .check 1793)) s).cmd.replies = [⟨7, [3]⟩] := by decide +kernel

/-- 12, 12.4: STORE_PROFILE 2, its refusals while it runs, and its end with parameter 2. -/
theorem test_store_profile :
    let t := after (exec (.storeProfile [2]) State.reset)
    let u := after (exec .storeDone (after (exec .storeEraseEnd t)))
    statuses t = [2] ∧ (t.store.slots.get .ch2).valid = false ∧ u.store.op = .ready ∧
    (u.store.slots.get .ch2).valid = true ∧
    u.events.queue.getLast?.map (fun r => (r.kind, r.param)) = some (.storeDone, some 2) := by decide +kernel

/-- 12, 12.4: a recall of an INVALID slot is refused. -/
theorem test_recall_invalid :
    statuses (after (exec (.recallProfile [2]) State.reset)) = [10] := by decide +kernel

/-- R181, R187: State.reset is a power-up followed by the end of the boot recall. -/
theorem test_reset_is_power_up_and_boot :
    let t := after (exec .bootRecallDone (after (exec .powerUp (after (exec .powerDown State.reset)))))
    t.tables = State.reset.tables ∧ t.stream = State.reset.stream ∧ t.det = State.reset.det ∧
    t.canc.mainsPeriod = 3843 ∧ t.events.queue = State.reset.events.queue := by decide +kernel

/-- Log entry 15: step takes the front command; an empty queue idles. -/
theorem test_step_takes_front :
    (after (step (State.reset.setPending [.startStream [], .perfMiss]))).pending = [.perfMiss] ∧
    (after (step (State.reset.setPending [.startStream []]))).stream.armed = true := by decide +kernel

/-! ### Points where the rules meet -/

/-- R43, R81: a start by a SPLICE keeps the count it loaded on channel 0, and not an older one on channel 1. -/
theorem test_spliceStart_counts :
    let s := State.reset.setDet ((State.reset.det.set .ch0 { State.reset.det.c0 with spliceCount := 8 }).set .ch1
      { State.reset.det.c1 with spliceCount := 7 })
    let t := startStreamNow .splice s
    setting s .b0 (.stream .channelMask) = 1 ∧ t.det.c0.spliceCount = 8 ∧ t.det.c1.spliceCount = 0 := by
  decide +kernel

/-- R32, R98: a run that has outlived its start spans the wrap of the serials; one from 0 does not reach back. -/
theorem test_span_across_the_wrap :
    inSpan ⟨none, 3⟩ 0xFFFFFFFD = true ∧ inSpan ⟨none, 3⟩ 4 = false ∧
    inSpan ⟨some 0, 3⟩ 0xFFFFFFFD = false ∧ inSpan ⟨some 0xFFFFFFF0, 3⟩ 3 = true := by decide +kernel

/-- A LONG context of the active bank. -/
def longContext : Context :=
  ⟨true, 1, 2, 0, 0, ⟨false, false, false, true, false⟩, none, 0, .b0, 1, 4, none⟩

/-- A reel in PRIMING whose four channels hold LONG contexts. -/
def longReel : State :=
  (reelOf .priming [1, 2, 3]).setDet (Quad.all { State.reset.det.c0 with hist := .two 0 3 2 false, ctx := some longContext })

/-- R91, R118: log_mode fails its check while channel 0 closes and turns the mode to BYPASS: the entries stand
in the order of the channels. -/
theorem test_closes_in_turn :
    let s := setField .b0 (.stream .policyTable) 1 longReel
    let t := after (exec (.stopStream []) (spoilField .b0 .logMode s))
    (unreadEntries t.log).map (fun e => e.channel) = [.ch0, .ch1, .ch2, .ch3] ∧ t.fault.mode = .bypass := by
  decide +kernel

/-- PRIMING with click detection enabled on channel 0 and its next value upset. -/
def upsetReel : State :=
  ((setField .b0 (.chan .ch0 .clickEnable) 1 (reelOf .priming [5, 5])).setDet
    (State.reset.det.set .ch0 { State.reset.det.c0 with hist := .two 0 5 5 false })).setUpset (Quad.all true)

/-- R75: the upset value is taken as the newest one, 5, and its position is forced with the cause MEMORY. -/
theorem test_upset_value :
    let t := after (exec (.arrival (formFrame ⟨.sample, 0, Quad.all 9, .none, 0⟩)) upsetReel)
    newestValue t.det.c0.hist = 5 ∧ t.det.c0.ctx.map (fun c => (c.first, c.causes.memory)) = some (2, true) ∧
    t.upset = Quad.all false := by decide +kernel

/-! ### A state for the hypotheses of each statement: the queue, frames and messages -/

theorem witness_StepTakesFrontCommand :
    (State.reset.setPending [.perfMiss]).pending = Instr.perfMiss :: [] ∧ State.reset.pending = [] := by
  decide +kernel

theorem witness_FrameRoundTrip :
    126 < 127 ∧ parseFrame (formFrame ⟨.idle, 0, Quad.all 0, .none, 0⟩ ^^^ (1#127 <<< 126)) = none ∧
    parseFrame (formFrame ⟨.idle, 0, Quad.all 0, .none, 0⟩ ^^^ (1#127 <<< 0)) = none := by
  decide +kernel

/-- The reset state with a message in assembly and some replies held. -/
def gathering (a : Assembly) (replies : List Reply) : State := State.reset.setCmd ⟨some a, replies⟩

theorem witness_FramingAndItsRefusals :
    let a : Assembly := ⟨21, 0, 0, [], 0x1500, false⟩
    let long : Assembly := ⟨4, 64, 64, List.replicate 63 0, 0, false⟩
    let close := fun (a : Assembly) (w : Word) =>
      (takeControl (some (controlFrame .check w)) (gathering a [⟨1, [0]⟩])).cmd.replies.map (fun r => r.body)
    (State.reset.cmd.assembly = none ∧ (gathering a []).cmd.assembly = some a) ∧
    (2 ≤ (gathering a [⟨1, [0]⟩, ⟨1, [0]⟩]).cmd.replies.length ∧ (gathering a [⟨1, [0]⟩]).cmd.replies.length < 2) ∧
    (close { a with corrupt := true } 0x1500 = [[0], [9]] ∧ close long 0 = [[0], [4]] ∧
      close { a with count := 1 } 0x1500 = [[0], [4]] ∧ close a 0x1501 = [[0], [3]] ∧
      close { a with code := 0 } 0x1500 = [[0], [5]] ∧ close { a with code := 22 } 0x1500 = [[0], [5]]) ∧
    (a.length.toNat ≤ 63 ∧ a.count = a.length.toNat ∧ a.code = CmdCode.code .softReset ∧
      State.reset.booting = false ∧ (State.reset.setStore ⟨State.reset.store.slots, .booting⟩).booting = true) := by
  decide +kernel

theorem witness_MessageReachesItsCommand :
    State.reset.live = true ∧ State.reset.cmd.assembly = none ∧ (List.replicate 63 (0 : Word)).length ≤ 63 := by
  decide +kernel

theorem witness_MessagesAreSentWhole :
    let s := State.reset.setCmd ⟨none, [⟨1, List.replicate 61 0⟩]⟩
    (s.tx = none ∧ s.cmd.replies = [⟨1, List.replicate 61 0⟩] ∧ (List.replicate 61 (0 : Word)).length ≤ 61) ∧
    (State.reset.tx = none ∧ State.reset.cmd.replies = [] ∧ State.reset.events.queue = [powerResetDone]) := by
  decide +kernel

/-! ### Values that fail their checks -/

/-- A stored value whose parity bit is wrong. -/
def spoiltCell : Cell := ⟨7, !parityBit (7 : Sample)⟩

theorem witness_MemoryErrorsAreCorrected :
    let canc := State.reset.canc
    let bad := { canc with mainsTpl := canc.mainsTpl.set .ch3 ((canc.mainsTpl.get .ch3).set 63 spoiltCell) }
    let last : FrameRecord := ⟨4, .none, 0, 0, .b0, false, ⟨{ entryOf 0 with cell := spoiltCell }, entryOf 0, entryOf 0, entryOf 0⟩⟩
    let drain := (State.reset.setStream ⟨.draining, false, 64, 5⟩).setRing [last]
    (cellOk (binCell canc .ch3 .mains 63) = true ∧ cellOk (binCell bad .ch3 .mains 63) = false) ∧
    (SoundTables upsetReel ∧ upsetReel.fault.mode = .normal ∧ upsetReel.work = ⟨false, false⟩ ∧
      (∀ ch, (upsetReel.det.get ch).ctx = none) ∧ inMask (setting upsetReel .b0 (.stream .channelMask)) .ch0 = true ∧
      setting upsetReel .b0 (.chan .ch0 .clickEnable) ≠ 0 ∧ upsetReel.upset.get .ch0 = true) ∧
    (cellOk (freshCell 7) = true ∧ cellOk spoiltCell = false) ∧
    (drain.serving = true ∧ drain.stream.state = .draining ∧ drain.ring = [last] ∧ last.processed = false ∧
      fieldOk (storedField drain last.bank (.stream .channelMask)) = true ∧
      (after (exec .drainEnd drain)).lastOut.c0 = drain.lastOut.c0) := by
  refine ⟨by decide +kernel, ⟨soundTables_of_pass (by decide +kernel), by decide +kernel, by decide +kernel,
    fun ch => ?_, by decide +kernel⟩, by decide +kernel⟩
  cases ch <;> decide +kernel

/-! ### Invariants -/

/-- The reset state with one command in its queue. -/
def queued (c : Instr) : State := State.reset.setPending [c]

theorem witness_StepKeepsQueuesAndLatch :
    let s := queued (.startStream [])
    (QueuesBounded s ∧ MaskKept s ∧ FaultKept s) ∧ AssemblyKept s ∧ (∃ t, step s = .next t) := by
  refine ⟨⟨⟨by decide +kernel, by decide +kernel⟩, ⟨by decide +kernel, ?_⟩, ?_⟩, fun a h => (by cases h), _, rfl⟩
  · intro k r h
    have : ∀ k : Fin 18, (queued (.startStream [])).events.kept[k] = none := by decide +kernel
    rw [this k] at h; cases h
  · unfold FaultKept; decide +kernel

theorem witness_StepKeepsRingAndBanks :
    let s := queued (.startStream [])
    (StreamKept s ∧ SerialsKept s ∧ BanksKept s) ∧ (∃ t, step s = .next t) := by
  refine ⟨⟨⟨by decide +kernel, rfl, by decide +kernel, by decide +kernel, reset_tablesInRange⟩, rfl,
    by decide +kernel, by decide +kernel, fun i h => ?_⟩, _, rfl⟩
  cases h

theorem witness_StepKeepsPeriods :
    let s := queued (.startStream [])
    PeriodsKept s ∧ (∃ t, step s = .next t) := by
  exact ⟨⟨by decide +kernel, by decide +kernel, ⟨0, by decide +kernel, rfl⟩, ⟨0, by decide +kernel, rfl⟩⟩, _, rfl⟩

theorem witness_StepKeepsLevels :
    let s := queued (.startStream [])
    LevelsKept s ∧ (∃ t, step s = .next t) := by
  refine ⟨⟨fun ch => ?_, fun ch => ?_, fun ch => ?_, reset_tablesInRange⟩, _, rfl⟩ <;>
    cases ch <;> decide +kernel

theorem witness_StepKeepsLog :
    let s := queued (.startStream [])
    LogKept s ∧ (∃ t, step s = .next t) := by
  refine ⟨⟨by decide +kernel, rfl, fun k h => absurd h (Nat.not_lt_zero k)⟩, _, rfl⟩

theorem witness_StepKeepsParity :
    let s := queued (.startStream [])
    (SoundTables s ∧ SoundCells s ∧ NoUpset s) ∧ (∃ t, step s = .next t) :=
  ⟨⟨reset_soundTables, reset_soundCells, rfl⟩, _, rfl⟩

/-! ### The click detector's centres, and the latch -/

/-- A context over the positions 3 to `last` with close_run 4. -/
def openContextAt (last : Serial) (cleanRun : Nat) : Context :=
  ⟨false, 3, last, 0, 0, ⟨true, false, false, false, false⟩, some 15800, cleanRun, .b0, 32, 4, none⟩

/-- A reel in PRIMING of twelve positions, the context on channel 0 and the next serial 12. -/
def contextReel (c : Context) : State :=
  (reelOf .priming (List.replicate 12 5)).setDet
    (State.reset.det.set .ch0 { State.reset.det.c0 with hist := .two 0 5 5 false, ctx := some c })

theorem witness_CentreIsCompared :
    let s := contextReel (openContextAt 5 3)
    let flag := { s with ring := reflagged 10 .ch0 (fun f => { f with flagged := true }) s.ring }
    let size := fun (vn v1 v2 : Sample) => (vn.toInt - 2 * v1.toInt + v2.toInt).natAbs
    let t := fun s : State => max (setting s .b0 (.chan .ch0 .tFloor))
      ((s.det.get .ch0).level * setting s .b0 (.chan .ch0 .k) / 16)
    (fieldOk (storedField s .b0 (.chan .ch0 .tFloor)) = true ∧ fieldOk (storedField s .b0 (.chan .ch0 .k)) = true) ∧
    (t s < size 257 0 0 ∧ size 256 0 0 ≤ t s) ∧
    ((ringFind flag.ring (11 - 1)).any (fun r => (r.entries.get .ch0).flags.flagged) = true ∧
      (ringFind s.ring (11 - 1)).any (fun r => (r.entries.get .ch0).flags.flagged) = false) ∧
    (State.reset.det.get .ch0).ctx = none ∧
    (¬ (0 < (11 - 1 - (openContextAt 10 0).last : Serial).toNat) ∧
      0 < (11 - 1 - (openContextAt 9 0).last : Serial).toNat ∧ (11 - 1 - (openContextAt 9 0).last : Serial).toNat < 2 ^ 31 ∧
      (openContextAt 9 2).cleanRun + 1 ≠ (openContextAt 9 2).closeRun ∧
      (openContextAt 9 3).cleanRun + 1 = (openContextAt 9 3).closeRun) := by decide +kernel

theorem witness_LatchedUntilReset :
    let s := State.reset.setFault ⟨none, true, .latched⟩
    let f : LinkFrame := ⟨.idle, 0, Quad.all 0, .body, 0⟩
    s.fault.mode = .latched ∧ (after (exec (.resume []) s)).fault.mode = .latched ∧
    (after (exec (.arrival (formFrame f)) s)).fault.mode = .latched ∧ parseFrame (formFrame f) = some f ∧
    f.kind ≠ .check := by decide +kernel

/-! ### Commands, at the limits of their operands -/

theorem witness_QueryStatusReplies :
    Ready State.reset ∧ QueuesBounded State.reset ∧
    statuses (after (exec (.queryStatus [4]) State.reset)) = [0] ∧
    statuses (after (exec (.queryStatus [5]) State.reset)) = [6] := by
  exact ⟨reset_ready, ⟨by decide +kernel, by decide +kernel⟩, by decide +kernel, by decide +kernel⟩

theorem witness_CountersReadAndCleared : Ready State.reset ∧ State.reset.counters.badFrame = 0 :=
  ⟨reset_ready, by decide +kernel⟩

theorem witness_WriteTableWritesOneRecord :
    let busy := State.reset.setTables { State.reset.tables with other := .loading }
    let dflt : List (BitVec 32) := channelSpec.toList.map (fun sp => BitVec.ofNat 32 sp.dflt)
    let status := fun (head : Word) (n : Nat) =>
      statuses (after (exec (.writeTable (head :: List.replicate n 0)) State.reset))
    Ready State.reset ∧ Ready busy ∧ State.reset.tables.other = .standby ∧ busy.tables.other ≠ .standby ∧
    dflt.length = 16 ∧ (List.replicate 14 (0 : BitVec 32)).length = 14 ∧
    clampedTo (.chan .ch3 .keepTemplates) 2 ≠ 2 ∧ clampedTo (.stream .channelMask) 0 ≠ 0 ∧
    clampedTo (.chan .ch3 .k) 96 = 96 ∧
    (status 0x0003 32 = [6] ∧ status 0x0100 28 = [6] ∧ status 0x0401 32 = [6] ∧ status 0x0000 29 = [6] ∧
      status 0x0002 62 = [6]) := by
  refine ⟨reset_ready, by unfold Ready; decide +kernel, ?_⟩
  decide +kernel

theorem witness_ReadTableReplies :
    let s := spoilField .b0 .channelMask State.reset
    let status := fun bank name : Word => statuses (after (exec (.readTable [bank, name]) State.reset))
    Ready s ∧ fieldOk (storedField s .b0 (.stream .channelMask)) = false ∧
    fieldOk (storedField s .b0 (.stream .lookahead)) = true ∧
    (status 2 0 = [6] ∧ status 1 3 = [6] ∧ status 1 0x0100 = [6] ∧ status 1 0x0402 = [6] ∧ status 1 0x0302 = [0]) := by
  exact ⟨by unfold Ready; decide +kernel, by decide +kernel, by decide +kernel, by decide +kernel⟩

theorem witness_BankExchanges :
    let pend := State.reset.setTables { State.reset.tables with pendingX := some .streamStart }
    let load := State.reset.setTables { State.reset.tables with other := .loading }
    (Ready State.reset ∧ Ready pend ∧ Ready load ∧ SoundTables State.reset) ∧
    (3 < (4 : Word).toNat ∧ (3 : Word).toNat ≤ 3) ∧
    (pend.tables.pendingX ≠ none ∧ load.tables.other ≠ .standby) ∧
    (State.reset.tables.pendingX = none ∧ State.reset.tables.other = .standby) ∧
    (pend.serving = true ∧ pend.tables.pendingX = some .streamStart ∧ SoundTables pend ∧
      pend.tables.pendingX ≠ some .nextFrame) := by
  exact ⟨⟨reset_ready, by unfold Ready; decide +kernel, by unfold Ready; decide +kernel, reset_soundTables⟩,
    by decide +kernel, by decide +kernel, by decide +kernel,
    by decide +kernel, by decide +kernel, reset_soundTables, by decide +kernel⟩

/-- The newest record of `upsetReel`, as it joins with a sound value or with an upset one. -/
theorem witness_AdmittedPositionIsTaken :
    let r : FrameRecord := ⟨2, .none, 0, 0, .b0, true, Quad.all (entryOf 5)⟩
    let b : FrameRecord := { r with entries := Quad.all { entryOf 5 with cell := spoiltCell } }
    let s := upsetReel.setRing (upsetReel.ring ++ [b])
    fieldOk (storedField s .b0 (.stream .channelMask)) = true ∧
    fieldOk (storedField s .b0 (.chan .ch0 .clickEnable)) = true ∧
    fieldOk (storedField s .b0 (.chan .ch1 .clickEnable)) = true ∧
    inMask (setting s .b0 (.stream .channelMask)) .ch0 = true ∧ setting s .b0 (.chan .ch0 .clickEnable) ≠ 0 ∧
    inMask (setting s .b0 (.stream .channelMask)) .ch1 = false ∧
    (r.processed = true ∧ cellOk (r.entries.get .ch0).cell = true ∧ cellOk (b.entries.get .ch0).cell = false) ∧
    (detectChannel b .ch0 s).det.c0.ctx.isSome = true ∧ (detectChannel r .ch0 s).det.c0.ctx = none := by
  decide +kernel

theorem witness_StartStreamArms :
    let lost := State.reset.setLink ⟨.lost, 256, Quad.all 0⟩
    let marker := setField .b0 (.stream .startMode) 1 State.reset
    let spoilt := spoilField .b0 .startMode State.reset
    (Ready lost ∧ lost.link.cond = .lost) ∧ (Ready running ∧ running.stream.state ≠ .idle) ∧
    (Ready marker ∧ marker.link.cond = .good ∧ marker.stream.state = .idle ∧
      setting marker marker.tables.active (.stream .startMode) = 1) ∧
    (Ready State.reset ∧ setting State.reset .b0 (.stream .startMode) ≠ 1 ∧
      fieldOk (storedField State.reset .b0 (.stream .startMode)) = true) ∧
    (Ready spoilt ∧ spoilt.stream.state = .idle ∧
      fieldOk (storedField spoilt .b0 (.stream .startMode)) = false) := by
  unfold Ready; decide +kernel

theorem witness_StopStreamDrains :
    let draining := reelOf .draining [1, 2]
    let marker := setField .b0 (.stream .stopMode) 1 (reelOf .priming [1])
    (Ready State.reset ∧ State.reset.stream.state = .idle) ∧ (Ready draining ∧ draining.stream.state = .draining) ∧
    (Ready marker ∧ marker.stream.state = .priming ∧
      setting marker marker.tables.active (.stream .stopMode) = 1) ∧
    (Ready running ∧ running.stream.state = .running ∧ setting running .b0 (.stream .stopMode) ≠ 1 ∧
      fieldOk (storedField running running.tables.active (.stream .stopMode)) = true ∧
      running.det.c0.ctx = none ∧ running.det.c1.ctx = none ∧ running.det.c2.ctx = none ∧
      running.det.c3.ctx = none) := by
  unfold Ready; decide +kernel

theorem witness_FaultsAndTheMode :
    let c : Capture := ⟨.tableMemory, none, none, 0, 0, .idle, .normal, .b0, false⟩
    let bypasses := setField .b0 (.stream .policyTable) 1 State.reset
    let fails := spoilField .b0 .policyTable State.reset
    let held := State.reset.setFault ⟨some c, false, .bypass⟩
    let free := State.reset.setFault ⟨none, false, .bypass⟩
    let latched := State.reset.setFault ⟨none, true, .latched⟩
    let closing := setField .b0 (.stream .policyTable) 1 (spoilField .b0 .logMode longReel)
    (State.reset.fault.capture = none ∧ fieldOk (storedField fails .b0 (.stream .policyTable)) = false ∧
      setting State.reset .b0 (.stream .policyTable) ≠ 1 ∧ setting bypasses .b0 (.stream .policyTable) = 1 ∧
      fieldOk (storedField bypasses .b0 (.stream .policyTable)) = true ∧ bypasses.fault.mode = .normal ∧
      held.fault.capture = some c) ∧
    (longReel.log.unread + 4 ≤ 256 ∧ (∀ ch, (longReel.det.get ch).ctx = some longContext) ∧
      longContext.long = true ∧ longContext.logIdx = none ∧
      fieldOk (storedField longReel longContext.bank (.stream .logMode)) = true ∧
      setting longReel longContext.bank (.stream .logMode) = 0) ∧
    (closing.fault.mode = .normal ∧ (closeOne .ch0 2 closing).fault.mode ≠ .normal ∧
      closing.work.admitting = false ∧ (closeOne .ch0 2 longReel).fault.mode = .normal) ∧
    (Ready State.reset ∧ State.reset.fault.mode = .normal) ∧ (Ready latched ∧ latched.fault.mode = .latched) ∧
    (Ready held ∧ held.fault.mode = .bypass ∧ held.fault.capture ≠ none) ∧
    (Ready free ∧ free.fault.mode = .bypass ∧ free.fault.capture = none) := by
  unfold Ready
  refine ⟨by decide +kernel, ⟨by decide +kernel, fun ch => ?_, by decide +kernel⟩, by decide +kernel⟩
  cases ch <;> decide +kernel

theorem witness_SetFrameTagLoads :
    Ready State.reset ∧ (0x00FF#16 ++ 0xFFFF#16 : BitVec 32).toNat = 16777215 ∧
    16777215 < (0x0100#16 ++ 0#16 : BitVec 32).toNat :=
  ⟨reset_ready, by decide +kernel, by decide +kernel⟩

theorem witness_ForceDefectLoadsCounts :
    statuses (after (exec (.forceDefect [0x4101]) running)) = [6] ∧
    statuses (after (exec (.forceDefect [0x4001]) State.reset)) = [8] ∧
    (after (exec (.forceDefect [0x4001]) running)).det.c0.commandCount = 64 ∧ Ready running := by
  unfold Ready; decide +kernel

/-- A log with one closed entry and, above it, an OPEN one. -/
def twoEntries : DefectLog :=
  let e : LogEntry := ⟨.ch0, ⟨true, false, false, false, false⟩, .repaired, 0, 0, 3, none, .b0⟩
  { writeSlot 1 { e with outcome := .stillOpen } (writeSlot 0 e State.reset.log) with writeIdx := 2, unread := 2 }

theorem witness_ReadLogReturnsOldest :
    let s := State.reset.setLog twoEntries
    Ready s ∧ LogSound s.log ∧ (1 ≤ (16 : Word).toNat ∧ (16 : Word).toNat ≤ 16) ∧ 16 < (17 : Word).toNat ∧
    (after (exec (.readLog [16]) s)).cmd.replies.map (fun r => r.body.take 3) = [[0, 17, 1]] := by
  refine ⟨by unfold Ready; decide +kernel, ⟨by decide +kernel, by decide +kernel, ?_⟩, by decide +kernel,
    by decide +kernel, by decide +kernel⟩
  intro k h
  have hk : k < 2 := h
  interval_cases k <;> decide +kernel

theorem witness_TemplateCommands :
    let read := fun first count : Nat => .readTemplate [BitVec.ofNat 16 (8 * first + 512 * count)]
    let load := fun first count : Nat =>
      .loadTemplate (BitVec.ofNat 16 (8 * first + 512 * count) :: packBins (List.replicate count 7))
    Ready State.reset ∧
    (after (exec (read 63 32) State.reset)).cmd.replies.map (fun r => r.body.length) = [4] ∧
    (statuses (after (exec (read 0 33) State.reset)) = [6] ∧ statuses (after (exec (read 0 0) State.reset)) = [6]) ∧
    (statuses (after (exec (load 0 0) State.reset)) = [6] ∧ statuses (after (exec (load 0 33) State.reset)) = [6] ∧
      statuses (after (exec (load 33 32) State.reset)) = [6] ∧
      statuses (after (exec (.loadTemplate [512, 7]) State.reset)) = [6]) ∧
    statuses (after (exec (load 32 32) running)) = [8] ∧
    (binCell (after (exec (load 32 32) State.reset)).canc .ch0 .perf 63).val = 7 := by
  exact ⟨reset_ready, by decide +kernel, by decide +kernel, by decide +kernel, by decide +kernel, by decide +kernel⟩

theorem witness_FlaggedPositionsGather :
    let s := reelOf .priming (List.replicate 40 5)
    let atOpen := setField .b0 (.stream .logMode) 1 s
    let c := openContextAt 5 0
    (∃ r, ringFind s.ring 39 = some r) ∧ (s.det.get .ch0).ctx = none ∧
    fieldOk (storedField s .b0 (.chan .ch0 .closeRun)) = true ∧
    fieldOk (storedField s .b0 (.stream .logMode)) = true ∧ setting s .b0 (.stream .logMode) ≠ 1 ∧
    setting atOpen .b0 (.stream .logMode) = 1 ∧ atOpen.log.unread < 256 ∧
    ((contextReel c).det.get .ch0).ctx = some c ∧
    (¬ c.maxLen < (34 - c.first : Serial).toNat + 1 ∧ c.maxLen < (35 - c.first : Serial).toNat + 1 ∧ c.long = false) := by
  exact ⟨⟨_, rfl⟩, by decide +kernel⟩

theorem witness_SetEventMaskReplaces :
    let e : EventRecord := ⟨.logHalf, none, 0, 0, some 40⟩
    let s := State.reset.setEvents { State.reset.events with
      mask := 0x80, kept := State.reset.events.kept.set 7 (some e) }
    Ready s ∧ s.events.lost = 0 ∧ s.events.queue.length + 1 ≤ 32 ∧
    (after (exec (.setEventMask [0, 0]) s)).events.queue.getLast? = some e := by
  exact ⟨by unfold Ready; decide +kernel, by decide +kernel⟩

theorem witness_ReadEventSummaryReplies :
    Ready State.reset ∧
    (after (exec (.readEventSummary []) State.reset)).cmd.replies.map (fun r => r.body) = [[0, 0, 1, 0, 0]] :=
  ⟨reset_ready, by decide +kernel⟩

theorem witness_AckFaultReturnsCapture :
    let c : Capture := ⟨.tableMemory, some .ch2, none, 0, 0, .running, .normal, .b0, false⟩
    let s := State.reset.setFault ⟨some c, false, .normal⟩
    Ready s ∧ s.fault.capture = some c ∧ Ready State.reset ∧ State.reset.fault.capture = none := by
  unfold Ready; decide +kernel

/-- The reset state with a VALID slot 3 that holds the defaults. -/
def withSlot : State :=
  State.reset.setStore ⟨State.reset.store.slots.set .ch3 ⟨true, defaultImage, imageCheck defaultImage⟩, .ready⟩

theorem witness_StoreAndRecallBegin :
    let s := State.reset.setStore { State.reset.store with op := .recalling .ch0 }
    let pend := withSlot.setTables { withSlot.tables with pendingX := some .nextFrame }
    (Ready State.reset ∧ Ready s ∧ State.reset.store.op = .ready ∧ s.store.op ≠ .ready ∧
      (3 : Word).toNat ≤ 3 ∧ 3 < (4 : Word).toNat) ∧
    (Ready withSlot ∧ (withSlot.store.slots.get (channelOf (3 : Word).toNat)).valid = true ∧
      withSlot.store.op = .ready ∧ withSlot.tables.other ≠ .retiring ∧ withSlot.tables.pendingX = none) ∧
    (Ready pend ∧ (pend.store.slots.get .ch3).valid = true ∧ pend.tables.pendingX ≠ none) ∧
    (State.reset.store.slots.get .ch3).valid = false := by
  unfold Ready; decide +kernel

theorem witness_RepairFillsFromItsAnchors :
    let s := contextReel (openContextAt 5 4)
    let value := fun (sp : Span) (p : Serial) => (anchorCell s .ch0 sp p).map (fun c => (c.val, cellOk c))
    (2 ^ 31 - 1 < 2 ^ 31 ∧ inSpan ⟨some 0, 7⟩ (0 - BitVec.ofNat 32 1) = false) ∧
    (value ⟨some 0, 11⟩ (3 - 1) = some (5, true) ∧ value ⟨some 0, 11⟩ (5 + 1) = some (5, true)) ∧
    value ⟨some 3, 11⟩ (3 - 1) = none ∧ value ⟨some 0, 5⟩ (5 + 1) = none := by decide +kernel

/-! ### Soft reset, and what is not executed -/

theorem witness_SoftResetValues : Ready State.reset ∧ SoundTables State.reset :=
  ⟨reset_ready, reset_soundTables⟩

theorem witness_WrongLengthIsBadParam :
    Ready State.reset ∧ (List.replicate 63 (0 : Word)).length ≤ 63 ∧
    lengthAccepted .softReset (List.replicate 63 0) = false ∧ lengthAccepted .queryStatus [] = false :=
  ⟨reset_ready, by decide +kernel⟩

theorem witness_CommandsNotExecuted :
    let full := State.reset.setCmd ⟨none, [⟨1, [0]⟩, ⟨1, [0]⟩]⟩
    let boot := State.reset.setStore ⟨State.reset.store.slots, .booting⟩
    let held := State.reset.setPower { State.reset.power with resetInput := true }
    (full.live = true ∧ 2 ≤ full.cmd.replies.length) ∧
    (boot.live = true ∧ boot.cmd.replies.length < 2 ∧ boot.booting = true) ∧
    (held.live = false ∧ held.power.supply = true ∧ held.power.resetInput = true) := by decide +kernel

/-! ### Rows that come about inside an arrival -/

theorem witness_ArmedStartTakesTheSlot :
    let s := State.reset.setStream ⟨.idle, true, 256, 0⟩
    s.serving = true ∧ s.stream.armed = true ∧ s.stream.state = .idle ∧ s.ring = [] ∧ SoundTables s ∧
    TablesInRange s ∧ setting s .b0 (.stream .stopMode) ≠ 0 := by
  exact ⟨by decide +kernel, by decide +kernel, by decide +kernel, by decide +kernel, reset_soundTables,
    reset_tablesInRange, by decide +kernel⟩

theorem witness_TrackerFollowsTheMarkers :
    let at' := fun (st : TrackerState) (since : Nat) (seen : Bool) =>
      State.reset.setTracker ⟨st, 500, BitVec.ofNat 16 since, 3, seen⟩
    let s := at' .locked 562 false
    (∀ k : Tracker, SoundTables (State.reset.setTracker k)) ∧
    ((takeRecord .perf (at' .acquire 15 false)).tracker.firstSeen = true ∧
      (takeRecord .perf (at' .acquire 15 true)).tracker.state = .locked ∧
      (takeRecord .perf (at' .acquire 16382 true)).tracker.period = 16383 ∧
      (takeRecord .perf (at' .acquire 16383 true)).tracker.state = .acquire) ∧
    ((takeRecord .framePerf (at' .locked 561 false)).tracker.period = 507 ∧
      (takeRecord .perf (at' .coasting 499 false)).tracker = ⟨.locked, 500, 0, 0, false⟩ ∧
      (takeRecord .perf (at' .locked 437 false)).tracker.period = 492 ∧
      (takeRecord .perf (at' .locked 436 false)).counters.perfOutlier = 1) ∧
    ((takeRecord .perf (at' .lost 9 false)).tracker = ⟨.acquire, 500, 0, 0, true⟩ ∧
      (takeRecord .none (at' .locked 561 false)).tracker.state = .lost ∧
      (takeRecord .none (at' .locked 560 false)).tracker.since = 561) ∧
    (s.serving = true ∧ s.tracker.state = .locked ∧
      s.tracker.since.toNat = s.tracker.period + s.tracker.period / 8 ∧
      fieldOk (storedField s s.tables.active (.stream .missLimit)) = true) :=
  ⟨fun _ => reset_soundTables, by decide +kernel, by decide +kernel, by decide +kernel, by decide +kernel⟩

/-- A context on channel 0 that is due to close, over the positions 3 to 5. -/
def dueContext (long : Bool) : Context := { openContextAt 5 4 with long := long }

/-- 05, 5.8 and 06, 6.5: PRIMING with anchors 1,200 at position 2 and 1,600 at position 6, the serials counted
from `base`. -/
def dueReel (long : Bool) (base : Serial) (aged : Bool) : State :=
  let c := dueContext long
  ((State.reset.setStream ⟨.priming, false, 64, base + 11⟩).setRing
    (ringOf base [1000, 1100, 1200, 1300, 9300, 1500, 1600, 1700, 1800, 1900, 2000])).setDet
    (State.reset.det.set .ch0 { State.reset.det.c0 with
      hist := .two (if aged then 0 else base) 1900 1800 aged
      ctx := some { c with first := c.first + base, last := c.last + base } })

theorem test_normalClose_one_click :
    let t := after (exec (.normalClose .ch0) (dueReel false 0 false))
    ((t.ring.map (fun r => r.entries.c0.cell.val.toInt)).take 7 = [1000, 1100, 1200, 1300, 1400, 1500, 1600]) ∧
    (logSlot t.log 0).map (fun e => (e.outcome, e.length, e.peak)) = some (.repaired, 3, some 15800) := by
  decide +kernel

/-- R32, R97, R98: the same close in a run from 0 that has lived on across the wrap of the serials. -/
theorem test_normalClose_across_the_wrap :
    let t := after (exec (.normalClose .ch0) (dueReel false 0xFFFFFFFC true))
    ((t.ring.map (fun r => r.entries.c0.cell.val.toInt)).take 7 = [1000, 1100, 1200, 1300, 1400, 1500, 1600]) := by
  decide +kernel

theorem witness_NormalCloseRepairsAndLogs :
    (∀ long aged : Bool, let s := dueReel long 0 aged
      s.serving = true ∧ (s.det.get .ch0).ctx = some (dueContext long) ∧ s.log.unread < 256 ∧
      (dueContext long).cleanRun = (dueContext long).closeRun ∧ (dueContext long).logIdx = none ∧
      fieldOk (storedField s .b0 (.stream .logMode)) = true ∧ setting s .b0 (.stream .logMode) = 0) ∧
    (let s := dueReel false 0 false
     (ringFind s.ring 2).map (fun r => cellOk (r.entries.get .ch0).cell) = some true ∧
     (ringFind s.ring 6).map (fun r => cellOk (r.entries.get .ch0).cell) = some true ∧
     ((3 - 1 - 0 : Serial).toNat < 2 ^ 31 ∧ (5 + 1 - 0 : Serial).toNat < 2 ^ 31) ∧
     (s.stream.nextSerial - 1 - (3 - 1)).toNat < 2 ^ 31 ∧ (s.stream.nextSerial - 1 - (5 + 1)).toNat < 2 ^ 31) := by
  decide +kernel

theorem witness_LinkLostEndsTheReel :
    let idle := State.reset.setLink ⟨.good, 256, Quad.all 0⟩
    let reel := running.setLink ⟨.good, 256, Quad.all 0⟩
    (idle.serving = true ∧ idle.link.cond = .good ∧ idle.link.badCount = 256 ∧ idle.stream.state = .idle) ∧
    (reel.serving = true ∧ reel.link.cond = .good ∧ reel.link.badCount = 256 ∧ reel.stream.state = .running ∧
      reel.det.c0.ctx = none ∧ reel.det.c1.ctx = none ∧ reel.det.c2.ctx = none ∧ reel.det.c3.ctx = none) := by
  decide +kernel

theorem witness_DrainingReleasesTheRing :
    let s := reelOf .draining [7]
    let f : LinkFrame := ⟨.sample, 1, Quad.all 9, .none, 0⟩
    let t := after (exec (.arrival (formFrame f)) (reelOf .draining [7, 8]))
    let lost := (reelOf .draining [7, 8]).setLink ⟨.good, 255, Quad.all 0⟩
    (StreamKept s ∧ StreamKept lost) ∧
    (s.serving = true ∧ s.stream.state = .draining ∧ s.ring = ringOf 0 [7] ∧ (ringOf 0 [7]).length = 1 ∧
      (after (exec .drainEnd s)).lastOut = ⟨7, 0, 0, 0⟩) ∧
    (s.cmd.assembly = none ∧ parseFrame 0 = none ∧ parseFrame (formFrame f) = some f ∧ f.kind = .none ∧
      f.markerCode = 1 ∧ t.lastOut = ⟨7, 0, 0, 0⟩ ∧ t.stream.state = .draining ∧ t.counters.drainedInput = 1) ∧
    (after (exec (.arrival 0) lost)).stream = { lost.stream with state := .draining } := by
  have kept : ∀ s : State, s.tables = State.reset.tables → 64 ≤ s.stream.lEff ∧ s.stream.lEff ≤ 1024 →
      ringFits s.stream.state s.ring.length s.stream.lEff → (s.stream.armed = true → s.stream.state = .idle) →
      (s.booting = true → s.stream.state = .idle) → StreamKept s := fun s h a b c d =>
    ⟨a, b, c, d, by simpa [TablesInRange, storedField, h] using reset_tablesInRange⟩
  exact ⟨⟨kept _ rfl (by decide +kernel) ⟨by decide +kernel, by decide +kernel⟩ (by decide +kernel) (by decide +kernel),
    kept _ rfl (by decide +kernel) ⟨by decide +kernel, by decide +kernel⟩ (by decide +kernel) (by decide +kernel)⟩,
    by decide +kernel, by decide +kernel, by decide +kernel⟩

/-- The reset state with a full log whose oldest entry stands in slot 0. -/
def fullLog (oldest : DefectOutcome) : State :=
  let e : LogEntry := ⟨.ch0, ⟨true, false, false, false, false⟩, oldest, 0, 0, 1, none, .b0⟩
  (contextReel { openContextAt 5 0 with logIdx := some 0 }).setLog
    { writeSlot 0 e State.reset.log with unread := 256, appended := true }

theorem witness_LogActions :
    let c := { openContextAt 5 4 with logIdx := some 0 }
    let s := fullLog .stillOpen
    (State.reset.log.unread < 256 ∧ s.log.unread = 256) ∧
    (logSlot s.log s.log.readIdx).map (fun e => e.outcome) = some .stillOpen ∧
    ((appendEntry ⟨.ch1, c.causes, .held, 0, 0, 2, none, .b0⟩ s).det.c0.ctx.map (fun c => c.logIdx)) = some none ∧
    (c.logIdx = some 0 ∧ (logSlot s.log 0).isSome = true ∧ (openContextAt 5 4).logIdx = none) := by decide +kernel

theorem witness_RetirementAndMessageEnds :
    let ret := State.reset.setTables { State.reset.tables with other := .retiring }
    let rep := (State.reset.setCmd ⟨none, [⟨7, [0]⟩]⟩).setTx (some ⟨true, 3⟩)
    let ev := State.reset.setTx (some ⟨false, 8⟩)
    (ret.serving = true ∧ ret.tables.other = .retiring ∧ ret.bankCount ret.tables.active.opposite = 0) ∧
    (rep.live = true ∧ rep.cmd.replies = [⟨7, [0]⟩] ∧ rep.tx = some ⟨true, [(0 : Word)].length + 2⟩) ∧
    (ev.live = true ∧ ev.events.queue = [powerResetDone] ∧ ev.tx = some ⟨false, 8⟩) := by decide +kernel

/-! ### Arrivals and stages -/

theorem witness_IdleSlotPassesThrough :
    let s := State.reset.setEvents { State.reset.events with queue := [] }
    let lost := s.setLink ⟨.lost, 256, Quad.all 0⟩
    let near := s.setLink ⟨.good, 254, Quad.all 0⟩
    let f : LinkFrame := ⟨.sample, 7, Quad.all 9, .none, 0⟩
    (s.serving = true ∧ s.stream.state = .idle ∧ s.stream.armed = false ∧ s.link.cond = .good ∧ s.tx = none ∧
      s.cmd.replies = [] ∧ s.events.queue = []) ∧
    (f.kind = .none ∧ f.markerCode = 7 ∧ (after (exec (.arrival (formFrame f)) s)).counters.markerError = 1) ∧
    (lost.link.cond = .lost ∧ (after (exec (.arrival (formFrame f)) lost)).tx = some ⟨false, 1⟩) ∧
    (parseFrame 0 = none ∧ near.link.badCount < 255 ∧
      (after (exec (.arrival 0) lost)).link = ⟨.lost, 256, Quad.all 0⟩) := by decide +kernel

theorem witness_RunningSlotMovesTheRing :
    (running.serving = true ∧ StreamKept running ∧ running.stream.state = .running) ∧
    ((after (exec (.arrival 0) (reelOf .priming (List.replicate 63 5)))).stream.state = .running) ∧
    (checkRunning (reelOf .priming (List.replicate 63 5))).stream.state = .priming := by
  exact ⟨⟨by decide +kernel, ⟨by decide +kernel, by show running.ring.length = 64; decide +kernel,
    by decide +kernel, by decide +kernel, reset_tablesInRange⟩, by decide +kernel⟩, by decide +kernel,
    by decide +kernel⟩

theorem witness_BadSlotAdmitsHeldRecord :
    let s := ((reelOf .priming [1, 2]).setLink ⟨.good, 254, Quad.all 6⟩).setFault ⟨none, false, .bypass⟩
    let f : LinkFrame := ⟨.idle, 7, Quad.all 0, .none, 0⟩
    (s.serving = true ∧ parseFrame 0 = none ∧ s.stream.state = .priming ∧
      s.ring.length + 1 < s.stream.lEff ∧ s.link.badCount < 255) ∧
    (parseFrame (formFrame f) = some f ∧ f.ftype = .idle ∧ f.kind = .none ∧
      (after (exec (.arrival (formFrame f)) s)).counters.dropout = 1) ∧
    (s.fault.mode ≠ .normal ∧ s.upset = Quad.all false ∧ s.det.c0.ctx = none ∧ s.det.c1.ctx = none ∧
      s.det.c2.ctx = none ∧ s.det.c3.ctx = none) := by decide +kernel

/-- R63: under a guard of 1 with the tracker LOCKED both engines are barred; without it neither is. -/
theorem test_noAdapt_flags :
    let s := State.reset.setTracker ⟨.locked, 2000, 5, 0, false⟩
    let flags := fun s : State => (admitRecord .none 0 (some (Quad.all 1)) s).ring.map (fun r =>
      (r.entries.c0.flags.noAdaptP, r.entries.c0.flags.noAdaptM))
    flags s = [(false, false)] ∧ flags (s.setFilm ⟨0, 0, 1⟩) = [(true, true)] ∧
    flags State.reset = [(true, false)] := by decide +kernel

theorem witness_AdmissionSubtractsTemplates :
    SoundTables State.reset ∧ SoundCells State.reset ∧ NoUpset State.reset ∧ State.reset.fault.mode = .normal ∧
    State.reset.work = ⟨false, false⟩ ∧
    (∀ ch, (State.reset.det.get ch).ctx = none ∧
      setting State.reset State.reset.tables.active (.chan ch .clickEnable) = 0) := by
  refine ⟨reset_soundTables, reset_soundCells, rfl, by decide +kernel, by decide +kernel, fun ch => ?_⟩
  cases ch <;> decide +kernel

theorem witness_MarkersMoveTheFilmPosition :
    State.reset.tables.pendingX = none ∧ SoundTables State.reset ∧
    fieldOk (storedField State.reset State.reset.tables.active (.stream .tagClear)) = true ∧
    (deliverMarker .framePerf (State.reset.setFilm ⟨BitVec.allOnes 24, 5, 0⟩)).film = ⟨0, 0, 0⟩ := by
  exact ⟨by decide +kernel, reset_soundTables, by decide +kernel, by decide +kernel⟩

/-- RUNNING with the tracker LOCKED and the PERF engine of channel 0 enabled; the oldest record holds `v`. -/
def adaptingReel (v : Int) : State :=
  (setField .b0 (.chan .ch0 .perfEnable) 1 (reelOf .running (v :: List.replicate 63 5))).setTracker
    ⟨.locked, 2000, 5, 0, false⟩

/-- R65, R66: the release of −125 under shift 8 takes one from bin 0; an entry under NO_ADAPT_P takes nothing. -/
theorem test_release_adapts :
    let s := adaptingReel (-125)
    let withheld := fun e : Entry => { e with flags := { e.flags with noAdaptP := true } }
    let barred := s.setRing (s.ring.map (fun r => { r with entries := r.entries.set .ch0 (withheld r.entries.c0) }))
    (binCell (release s).canc .ch0 .perf 0).val = -1 ∧ (binCell (release barred).canc .ch0 .perf 0).val = 0 := by
  decide +kernel

theorem witness_AdaptationUpdatesOneBin :
    let s := State.reset.setCanc (writeBin .ch0 .perf 63 8388607 State.reset.canc)
    let u := adaptingReel 8388607
    (fieldOk (storedField s .b0 (.chan .ch0 .perfShift)) = true ∧ cellOk (binCell s.canc .ch0 .perf 63) = true ∧
      8388607 < (binCell s.canc .ch0 .perf 63).val.toInt +
        (256 : Sample).toInt / (2 ^ setting s .b0 (.chan .ch0 .perfShift) : Int) ∧
      s.fault.capture = none ∧ fieldOk (storedField s s.tables.active (.stream .policyTemplate)) = true ∧
      setting s s.tables.active (.stream .policyTemplate) = 0) ∧
    (∃ r rest, u.ring = r :: rest ∧ r.processed = true ∧ r.bank = .b0 ∧ cellOk r.entries.c0.cell = true ∧
      r.entries.c0.flags = noFlags ∧ r.entries.c0.perfBin = 0) ∧
    SoundTables u ∧
    (inMask (setting u .b0 (.stream .channelMask)) .ch0 = true ∧ setting u .b0 (.chan .ch0 .perfEnable) ≠ 0 ∧
      u.film.guard = 0 ∧ u.tracker.state = .locked ∧ u.fault.mode = .normal ∧ u.stream.state = .running) :=
  ⟨by decide +kernel, ⟨_, _, rfl, by decide +kernel⟩, soundTables_of_pass (by decide +kernel), by decide +kernel⟩

theorem witness_RaisingIsTakenInOrder :
    let e : Events := ⟨List.replicate 31 powerResetDone, 0x8001, Vector.replicate 18 none, 0, 1⟩
    (e.mask.getLsbD (kindNum .streamState).val = true ∧ e.mask.getLsbD (kindNum .fault).val = false) ∧
    (e.queue.length < 32 ∧ e.lost ≠ 0 ∧ e.mask.getLsbD 15 = true) ∧
    ({ e with mask := 0 }.mask.getLsbD 15 = false ∧ { e with mask := 0 }.queue.length = 31) := by decide +kernel

theorem witness_FailingReadIsReportedOnce :
    let s := spoilField .b1 .lookahead State.reset
    let u := s.setTables (withTableFault s.tables .b1 true)
    (fieldOk (storedField s .b1 (.stream .lookahead)) = false ∧ tableFault s.tables .b1 = false ∧
      s.fault.capture = none ∧ fieldOk (storedField s s.tables.active (.stream .policyTable)) = true ∧
      setting s s.tables.active (.stream .policyTable) = 0) ∧
    (fieldOk (storedField u .b1 (.stream .lookahead)) = false ∧ tableFault u.tables .b1 = true) ∧
    fieldOk (storedField State.reset .b1 (.stream .lookahead)) = true := by decide +kernel

theorem witness_HissStepStaysBetween :
    (⟨0, 0, 4096⟩ : Hiss).gain ≤ 4096 ∧ (∀ i : Fin 16, gentle.gtab[i] ≤ 4096) ∧ 1 ≤ gentle.floorF := by
  decide +kernel

theorem witness_InterpolationNeedsNoSaturation :
    1 ≤ 1 ∧ 1 ≤ 1 ∧ interpolate 8388607 (-8388608) 1 1 = 0 := by decide +kernel

theorem witness_MainsPeriodOfTheActiveBank :
    let free := setField .b0 (.stream .mainsMode) 1 State.reset
    (setting State.reset .b0 (.stream .mainsMode) = 0 ∧ setting State.reset .b0 (.stream .mainsRatio) = 492 ∧
      State.reset.tracker.period = 2000 ∧ mainsPeriodOf State.reset = 3843) ∧
    (setting free .b0 (.stream .mainsMode) = 1 ∧ setting free .b0 (.stream .mainsFreePeriod) = 3840 ∧
      mainsPeriodOf free = 3840) ∧ SoundTables State.reset := by
  exact ⟨by decide +kernel, by decide +kernel, reset_soundTables⟩

/-! ### Resets, the supply and the profile store -/

theorem witness_ResetInputAndSupply :
    let held := State.reset.setPower { State.reset.power with resetInput := true }
    let off := State.reset.setPower { State.reset.power with supply := false }
    (held.power.supply = true ∧ held.power.resetInput = true) ∧
    (State.reset.power.supply = true ∧ State.reset.power.resetInput = false) ∧
    (off.power.supply = false ∧ off.power.resetInput = false) := by decide +kernel

theorem witness_BootRecallFillsBothBanks :
    let boot := fun x : Slot => State.reset.setStore ⟨State.reset.store.slots.set .ch0 x, .booting⟩
    (∀ x ∈ [blankSlot, ⟨true, defaultImage, imageCheck defaultImage⟩, ⟨true, defaultImage, 0⟩],
      (boot x).live = true ∧ (boot x).store.op = .booting) ∧ imageCheck defaultImage ≠ 0 := by decide +kernel

theorem witness_StoreOperationsComplete :
    let op := fun o : StoreOp => withSlot.setStore { withSlot.store with op := o }
    let bad := (op (.recalling .ch3)).setStore
      ⟨withSlot.store.slots.set .ch3 ⟨true, defaultImage, 0⟩, .recalling .ch3⟩
    ((op (.erasing .ch3 defaultImage 0)).live = true ∧ (op (.programming .ch3 defaultImage 0)).live = true) ∧
    ((op (.recalling .ch3)).live = true ∧
      imageCheck ((op (.recalling .ch3)).store.slots.get .ch3).image
        = ((op (.recalling .ch3)).store.slots.get .ch3).check) ∧
    (bad.live = true ∧ bad.store.op = .recalling .ch3 ∧
      imageCheck (bad.store.slots.get .ch3).image ≠ (bad.store.slots.get .ch3).check) := by decide +kernel

theorem witness_RecordWordsCarryFields :
    let e : LogEntry := ⟨.ch3, ⟨true, true, true, true, true⟩, .unrepaired, 0xFFFFFF, 0xFFFF, 65535,
      some 33554430, .b1⟩
    (e.length ≤ 65535 ∧ e.peak.getD 0 ≤ 33554430) ∧
    (let vs : List Sample := [1, 0xFFFFFF, 0x800000]
     2 * 0 + 1 < vs.length ∧ vs.length = 2 * 1 + 1 ∧ packBins vs = [0x0001, 0xFF00, 0xFFFF, 0x0000, 0x0080]) := by
  decide +kernel

end Sys2Proof.Tests
end

section
/-! The link frame (R1, R2, R13, R166): the places of a formed frame, and the count of ones behind its parity. -/

namespace Sys2Proof.SampleLink

open Sys2Proof Sys2Proof.Machine

/-! ### The count of ones -/

/-- The count of ones as a sum over the bits. -/
theorem onesCount_eq_sum {n : Nat} (x : BitVec n) :
    onesCount x = ∑ i ∈ Finset.range n, (x.getLsbD i).toNat := by
  have count (l : List Nat) : (l.filter fun i => x.getLsbD i).length = (l.map fun i => (x.getLsbD i).toNat).sum := by
    induction l with
    | nil => rfl
    | cons i l ih => cases h : x.getLsbD i <;> simp [h, ih, Nat.add_comm]
  exact count (List.range n)

/-- R166: the parity bit makes the count of ones even. -/
theorem onesCount_append_parity {n : Nat} (x : BitVec n) :
    onesCount (x ++ BitVec.ofBool (parityBit x)) % 2 = 0 := by
  have split : onesCount (x ++ BitVec.ofBool (parityBit x)) = onesCount x + (parityBit x).toNat := by
    rw [onesCount_eq_sum, Finset.sum_range_succ', onesCount_eq_sum]
    simp only [BitVec.getLsbD_append]
    simp
  rw [split, parityBit]
  rcases Nat.mod_two_eq_zero_or_one (onesCount x) with h | h <;> simp [h, Nat.add_mod]

/-- The word with one bit set, bit by bit. -/
theorem getLsbD_one_shiftLeft {n : Nat} (i j : Nat) : (1#n <<< i).getLsbD j = decide (j < n ∧ j = i) := by
  rw [BitVec.getLsbD_shiftLeft, BitVec.getLsbD_one]
  grind

/-- A bit turned over changes the parity of the count of ones. -/
theorem onesCount_flip {n i : Nat} (x : BitVec n) (hi : i < n) :
    onesCount (x ^^^ (1#n <<< i)) % 2 ≠ onesCount x % 2 := by
  have mem : i ∈ Finset.range n := Finset.mem_range.2 hi
  have turned : (x ^^^ (1#n <<< i)).getLsbD i = !x.getLsbD i := by
    rw [BitVec.getLsbD_xor, getLsbD_one_shiftLeft, decide_eq_true ⟨hi, rfl⟩, Bool.xor_true]
  have others : ∑ j ∈ (Finset.range n).erase i, ((x ^^^ (1#n <<< i)).getLsbD j).toNat =
      ∑ j ∈ (Finset.range n).erase i, (x.getLsbD j).toNat :=
    Finset.sum_congr rfl fun j hj => by
      rw [BitVec.getLsbD_xor, getLsbD_one_shiftLeft,
        decide_eq_false fun h => Finset.ne_of_mem_erase hj h.2, Bool.xor_false]
  rw [onesCount_eq_sum, onesCount_eq_sum, ← Finset.add_sum_erase _ _ mem, ← Finset.add_sum_erase _ _ mem, others,
    turned]
  cases x.getLsbD i <;> simp <;> omega

/-! ### The places of a formed frame -/

@[simp] theorem frameTypeOf_code (t : FrameType) : frameTypeOf t.code = t := by cases t <;> rfl

@[simp] theorem ctlKindOf_code (k : CtlKind) : ctlKindOf k.code = k := by cases k <;> rfl

/-- R166: what stands at each place of the ten fields laid one after another. -/
theorem layout_places (y : BitVec 8) (t : BitVec 1) (m : BitVec 3) (a b c d : Sample) (k : BitVec 2) (w : Word)
    (p : BitVec 1) :
    let x := y ++ (t ++ m ++ a ++ b ++ c ++ d ++ k ++ w) ++ p
    x.extractLsb' 118 1 = t ∧ x.extractLsb' 115 3 = m ∧
      (x.extractLsb' 91 24 = a ∧ x.extractLsb' 67 24 = b ∧ x.extractLsb' 43 24 = c ∧ x.extractLsb' 19 24 = d) ∧
      x.extractLsb' 17 2 = k ∧ x.extractLsb' 1 16 = w := by
  simp (disch := omega) only [-Nat.reduceAdd, BitVec.extractLsb'_append_eq_of_add_le,
    BitVec.extractLsb'_append_eq_of_le, BitVec.extractLsb'_eq_self, Nat.reduceSub, and_self]

/-- R166: what stands at each place of a formed frame. -/
theorem formFrame_places (f : LinkFrame) :
    (formFrame f).extractLsb' 118 1 = f.ftype.code ∧ (formFrame f).extractLsb' 115 3 = f.markerCode ∧
      ((formFrame f).extractLsb' 91 24 = f.samples.c0 ∧ (formFrame f).extractLsb' 67 24 = f.samples.c1 ∧
        (formFrame f).extractLsb' 43 24 = f.samples.c2 ∧ (formFrame f).extractLsb' 19 24 = f.samples.c3) ∧
      (formFrame f).extractLsb' 17 2 = f.kind.code ∧ (formFrame f).extractLsb' 1 16 = f.data :=
  layout_places syncPattern f.ftype.code f.markerCode _ _ _ _ f.kind.code f.data (BitVec.ofBool (parityBit f.fields))

/-- R1, R13: the fields of a formed frame are those it was formed from. -/
theorem frameFields_formFrame (f : LinkFrame) : frameFields (formFrame f) = f := by
  obtain ⟨ht, hm, ⟨ha, hb, hc, hd⟩, hk, hw⟩ := formFrame_places f
  rw [frameFields, ht, hm, ha, hb, hc, hd, hk, hw, frameTypeOf_code, ctlKindOf_code]

/-- R166: a formed frame is its sync pattern before the bits that the parity makes even. -/
theorem formFrame_eq (f : LinkFrame) :
    formFrame f = (syncPattern ++ (f.fields ++ BitVec.ofBool (parityBit f.fields)) : BitVec (8 + 119)) :=
  BitVec.append_assoc ..

theorem formFrame_sync (f : LinkFrame) : (formFrame f).extractLsb' 119 8 = syncPattern := by
  rw [formFrame_eq]
  exact BitVec.extractLsb'_append_eq_left

theorem formFrame_checked (f : LinkFrame) :
    (formFrame f).extractLsb' 0 119 = f.fields ++ BitVec.ofBool (parityBit f.fields) := by
  rw [formFrame_eq]
  exact BitVec.extractLsb'_append_eq_right

/-- R13, R166: a formed frame is sound. -/
theorem frameSound_formFrame (f : LinkFrame) : frameSound (formFrame f) = true := by
  have even : onesCount ((formFrame f).extractLsb' 0 119) % 2 = 0 := by
    rw [formFrame_checked]; exact onesCount_append_parity f.fields
  simp [frameSound, formFrame_sync, even]

/-- R1, R13: a formed frame is received with its fields. -/
@[simp] theorem parseFrame_formFrame (f : LinkFrame) : parseFrame (formFrame f) = some f := by
  simp [parseFrame, frameSound_formFrame, frameFields_formFrame]

/-- One bit set, seen through a window that holds its place. -/
theorem extract_one_shiftLeft {n : Nat} {i start len : Nat} (hn : start + len ≤ n) (hi : start ≤ i) :
    (1#n <<< i).extractLsb' start len = 1#len <<< (i - start) := by
  apply BitVec.eq_of_getLsbD_eq
  intro j hj
  rw [BitVec.getLsbD_extractLsb', getLsbD_one_shiftLeft, getLsbD_one_shiftLeft]
  grind

/-- R2: a formed frame with one bit turned over is not sound: the parity covers the low 119 bits, and the sync
pattern stands above them. -/
theorem frameSound_flip (f : LinkFrame) {i : Nat} (hi : i < 127) :
    frameSound (formFrame f ^^^ (1#127 <<< i)) = false := by
  by_cases hp : i < 119
  · have covered : (formFrame f ^^^ (1#127 <<< i)).extractLsb' 0 119 =
        (formFrame f).extractLsb' 0 119 ^^^ (1#119 <<< i) := by
      rw [BitVec.extractLsb'_xor, extract_one_shiftLeft (by omega) (Nat.zero_le i), Nat.sub_zero]
    have even : onesCount ((formFrame f).extractLsb' 0 119) % 2 = 0 := by
      rw [formFrame_checked]; exact onesCount_append_parity f.fields
    have odd := onesCount_flip ((formFrame f).extractLsb' 0 119) hp
    rw [even, ← covered] at odd
    simpa [frameSound] using fun _ => Nat.mod_two_ne_zero.1 odd
  · have pattern : (formFrame f ^^^ (1#127 <<< i)).extractLsb' 119 8 = syncPattern ^^^ (1#8 <<< (i - 119)) := by
      rw [BitVec.extractLsb'_xor, extract_one_shiftLeft (by omega) (by omega), formFrame_sync]
    have turned : ∀ j : Fin 8, syncPattern ^^^ (1#8 <<< j.val) ≠ syncPattern := by decide
    simp [frameSound, pattern, turned ⟨i - 119, by omega⟩]

/-- Settles O2: the fields stand at their places, the parity makes a formed frame sound, and one bit turned over
breaks the sync pattern or the parity. -/
theorem frameRoundTrip : Obligations.FrameRoundTrip := by
  refine ⟨parseFrame_formFrame, fun f i hi => ?_⟩
  simp [parseFrame, frameSound_flip f hi]

end Sys2Proof.SampleLink
end

section
/-! Commands that are not executed, the reset input and the supply, and the values after a reset. -/

namespace Sys2Proof.SampleLink

open Sys2Proof Sys2Proof.Machine Sys2Proof.Safety

/-! ### Commands that are not executed (R14, R158) -/

/-- R158: with two replies held a command is discarded and counted. -/
theorem commandStep_full {c : CmdCode} {p : List Word} {s : State} (hl : s.live = true)
    (hr : 2 ≤ s.cmd.replies.length) : commandStep c p s = countReplyOverrun (endAssembly s) := by
  have full : (endAssembly s).cmd.replies.length ≥ Config.replyMax := hr
  rw [commandStep, if_pos hl, closeMessage, if_pos full]

/-- R14, R158: during the boot recall a command is answered BUSY. -/
theorem commandStep_booting {c : CmdCode} {p : List Word} {s : State} (hl : s.live = true)
    (hr : s.cmd.replies.length < 2) (hb : s.booting = true) (hp : p.length ≤ 63) :
    commandStep c p s = refuse c.code .busy (endAssembly s) := by
  have room : ¬ (endAssembly s).cmd.replies.length ≥ Config.replyMax := Nat.not_le.2 hr
  have len : (BitVec.ofNat 8 p.length).toNat = p.length := by
    rw [BitVec.toNat_ofNat]; exact Nat.mod_eq_of_lt (by omega)
  have boots : (endAssembly s).booting = true := hb
  simp [commandStep, hl, closeMessage, room, soundMessage, len, Config.bodyMax, Nat.not_lt.2 hp, boots]

/-- R14: a part without supply, or held in reset, takes no command. -/
theorem commandStep_not_live {c : CmdCode} {p : List Word} {s : State} (hl : s.live = false) :
    commandStep c p s = s := by
  simp [commandStep, hl]

/-- R14: while the reset input is held an arrival is answered with an empty IDLE frame. -/
theorem arrivalStep_held {s : State} (bits : BitVec 127) (hs : s.power.supply = true)
    (hr : s.power.resetInput = true) : arrivalStep bits s = heldArrival s := by
  simp [arrivalStep, hs, hr]

/-- Settles O38: each case is the branch of the close, or of the arrival, that its hypotheses select. -/
theorem commandsNotExecuted : Obligations.CommandsNotExecuted := by
  intro c payload s hp
  rw [exec_command]
  refine ⟨fun hl hr => ?_, fun hl hr hb => ?_, fun hl => ?_, fun bits hs hr => ?_⟩
  · rw [commandStep_full hl hr]; rfl
  · rw [commandStep_booting hl hr hb hp]; rfl
  · rw [commandStep_not_live hl]
  · exact congrArg Host.Outcome.next (arrivalStep_held bits hs hr)

/-! ### Hard resets (R14, R181, R187) -/

/-- R72: a cleared template holds 0 with fresh parity in every bin. -/
theorem binCell_clear {c : Canceller} (hp : c.perfTpl = Quad.all clearTemplate)
    (hm : c.mainsTpl = Quad.all clearTemplate) (ch : Channel) (e : Engine) (b : BitVec 6) :
    binCell c ch e b = freshCell 0 := by
  have template : templateOf c ch e = clearTemplate := by cases e <;> simp [templateOf, hp, hm]
  rw [binCell, template]
  simp only [clearTemplate, Vector.getElem_replicate]
  decide

/-- An empty log has no entry in any slot. -/
theorem logSlot_empty (i : BitVec 8) (w r : BitVec 8) (n : Nat) (o a : Bool) :
    logSlot ⟨Vector.replicate 256 none, w, r, n, o, a⟩ i = none := by
  simp [logSlot]

/-- R14, R187: the hard reset's values, with the boot recall begun, are those that the chapters give. -/
theorem hardValues_taken (s : State) : HardResetTaken s (hardValues s) := by
  refine ⟨rfl, rfl, rfl, rfl, rfl, rfl, binCell_clear rfl rfl, fun ch => ?_, rfl, rfl, fun i => ?_, rfl, rfl, rfl,
    rfl, rfl, rfl, fun k => ?_, rfl, rfl, rfl⟩
  · simp [hardValues, softDetector]
  · exact logSlot_empty i ..
  · simp [hardValues]

/-- Only the detectors' max_len_eff and the slots of the state before show in a hard reset. -/
theorem hardResetTaken_congr {s s' t : State} (hd : s'.det = s.det) (hs : s'.store = s.store)
    (h : HardResetTaken s' t) : HardResetTaken s t := by
  rwa [HardResetTaken, hd, hs] at h

/-- Settles O57: the assertion and the loss of the supply are their own state updates; the release and a power-up
are `hardValues` of the state with its new power unit. -/
theorem resetInputAndSupply : Obligations.ResetInputAndSupply := by
  intro s
  refine ⟨fun hr => ?_, fun hs hr => ?_, fun hs hr => ?_, fun hs hr => ?_, rfl⟩
  · simp [exec, execHardReset, assertReset, hr]
  · simp [exec, execHardReset, assertReset, hr, hs, State.setPower, State.setStore, endOperation]
  · refine ⟨hardValues (s.setPower { s.power with resetInput := false }), ?_,
      hardResetTaken_congr rfl rfl (hardValues_taken _), rfl, rfl⟩
    simp [exec, execHardResetRelease, releaseReset, hr, hs]
  · refine ⟨hardValues (s.setPower ⟨true, s.power.resetInput, .power, .idle, .normal⟩), ?_,
      hardResetTaken_congr rfl rfl (hardValues_taken _), by simp [hardValues, hr], rfl⟩
    simp [exec, execPowerUp, actWhen, hs, powerUpStep, hardValues, hr]

/-! ### The values after a reset -/

@[simp] theorem fieldOk_freshField (v : BitVec 32) : fieldOk (freshField v) = true := by
  simp [fieldOk, freshField]

@[simp] theorem cellOk_freshCell (v : Sample) : cellOk (freshCell v) = true := by
  simp [cellOk, freshCell]

/-- R153: every field of a bank filled with the defaults holds its default with fresh parity. -/
theorem field_freshBank_default (r : FieldRef) :
    (freshBank defaultImage).field r = freshField (BitVec.ofNat 32 (fieldSpec r).dflt) := by
  cases r <;> simp [freshBank, defaultImage, TableSetOf.field, fieldSpec]

/-- R136, R137 to R139: the fields after a reset. -/
theorem storedField_reset (b : BankId) (r : FieldRef) :
    storedField State.reset b r = freshField (BitVec.ofNat 32 (fieldSpec r).dflt) := by
  cases b <;> exact field_freshBank_default r

/-- R137 to R139: every default lies within its field's range, and fits its 32 bits. -/
theorem default_inRange (r : FieldRef) :
    (fieldSpec r).lo ≤ (fieldSpec r).dflt ∧ (fieldSpec r).dflt ≤ (fieldSpec r).hi ∧
      (fieldSpec r).hi < 2 ^ 32 := by
  cases r with
  | stream f =>
    have all : ∀ i : Fin 14, streamSpec[i].lo ≤ streamSpec[i].dflt ∧ streamSpec[i].dflt ≤ streamSpec[i].hi ∧
        streamSpec[i].hi < 2 ^ 32 := by decide
    exact all f.idx
  | chan _ f =>
    have all : ∀ i : Fin 16, channelSpec[i].lo ≤ channelSpec[i].dflt ∧ channelSpec[i].dflt ≤ channelSpec[i].hi ∧
        channelSpec[i].hi < 2 ^ 32 := by decide
    exact all f.idx
  | gain _ i => simp [fieldSpec, gainSpec]

theorem tablesInRange_reset : TablesInRange State.reset := by
  intro b r _
  obtain ⟨hlo, hhi, hfit⟩ := default_inRange r
  have value : (storedField State.reset b r).val.toNat = (fieldSpec r).dflt := by
    rw [storedField_reset, freshField, BitVec.toNat_ofNat, Nat.mod_eq_of_lt (by omega)]
  rw [value]
  exact ⟨hlo, hhi⟩

theorem binCell_reset (ch : Channel) (e : Engine) (b : BitVec 6) : binCell State.reset.canc ch e b = freshCell 0 :=
  binCell_clear rfl rfl ch e b

theorem maskKept_reset : MaskKept State.reset :=
  ⟨by decide, fun k r h => by simp [State.reset] at h⟩

theorem banksKept_reset : BanksKept State.reset :=
  ⟨by decide, fun h => absurd rfl h, fun i h => by cases h⟩

theorem levelsKept_reset : LevelsKept State.reset := by
  refine ⟨?_, ?_, ?_, tablesInRange_reset⟩ <;> intro ch <;> cases ch <;> decide

/-- Settles O7: the units are read off `State.reset`, the tables hold the defaults with fresh parity, and the
templates are clear. -/
theorem resetValues : Obligations.ResetValues := by
  refine ⟨⟨rfl, rfl, rfl, rfl, rfl, rfl, binCell_reset, fun ch => Quad.get_all _ ch, rfl, rfl, rfl,
    storedField_reset, rfl, rfl, rfl, rfl, rfl, rfl, rfl, rfl⟩, ?_⟩
  refine ⟨⟨by decide, by decide⟩, maskKept_reset, ⟨nofun, nofun⟩, ?_, ?_, rfl, banksKept_reset, ?_,
    levelsKept_reset, ?_, ?_, rfl, ?_⟩
  · exact ⟨by decide, by decide, ⟨0, by decide, rfl⟩, ⟨0, by decide, rfl⟩⟩
  · exact ⟨by decide, rfl, by decide, by decide, tablesInRange_reset⟩
  · exact ⟨by decide, rfl, fun k hk => absurd hk (Nat.not_lt_zero k)⟩
  · exact fun b r => by rw [storedField_reset]; exact fieldOk_freshField _
  · exact ⟨fun r hr => absurd hr List.not_mem_nil, fun ch e b => by rw [binCell_reset]; exact cellOk_freshCell 0⟩
  · exact fun a ha => by cases ha

end Sys2Proof.SampleLink
end

section
/-! The egress arbiter (R164, R165): a message is sent whole, one control word in each departing frame. -/

namespace Sys2Proof.SampleLink

open Sys2Proof Sys2Proof.Machine Sys2Proof.Safety

/-- A state with another transmission and another departed frame: what one word sent changes. -/
def sending (s : State) (t : Option Transmission) (d : Option (BitVec 127)) : State :=
  { s with tx := t, out := { s.out with departed := d } }

/-- The frame of a slot's outcome with the `i`-th of some control words. -/
def frameOf (o : SlotOut) (words : List (CtlKind × Word)) (i : Nat) : BitVec 127 :=
  formFrame (departingFrame o (words.getD i noWord))

@[simp] theorem txWords_sending (s : State) (a : Option Transmission) (d : Option (BitVec 127)) (t : Transmission) :
    txWords (sending s a d) t = txWords s t := rfl

theorem txWords_reply {s : State} {r : Reply} {rest : List Reply} (hr : s.cmd.replies = r :: rest) (n : Nat) :
    txWords s ⟨true, n⟩ = replyMessage r := by
  simp [txWords, hr]

theorem txWords_event {s : State} {e : EventRecord} {rest : List EventRecord} (he : s.events.queue = e :: rest)
    (n : Nat) : txWords s ⟨false, n⟩ = eventMessage e := by
  simp [txWords, he]

/-- R164, R165: one egress step with a message in transmission: its next word departs, and with the last word the
message is removed. -/
theorem egressStep_sending (s : State) (b : Bool) (n : Nat) (d : Option (BitVec 127)) :
    egressStep (sending s (some ⟨b, n⟩) d) =
      let sent := sending s (some ⟨b, n + 1⟩) (some (frameOf s.out.slot (txWords s ⟨b, 0⟩) n))
      if n + 1 ≥ (txWords s ⟨b, 0⟩).length then (removeSent ⟨b, n + 1⟩ sent).setTx none else sent := rfl

/-- R164: with nothing in transmission the arbiter's choice decides the step. -/
theorem egressStep_choose {s : State} {b : Bool}
    (hc : chooseMessage s = s.setTx (some ⟨b, 0⟩)) :
    egressStep s = egressStep (sending s (some ⟨b, 0⟩) s.out.departed) := by
  rw [egressStep, hc]; rfl

/-- R164: with nothing in transmission and nothing to send, a frame without a control word departs. -/
theorem egressStep_quiet {s : State} (htx : s.tx = none) (hr : s.cmd.replies = []) (he : s.events.queue = []) :
    egressStep s = s.setOut { s.out with departed := some (formFrame (departingFrame s.out.slot noWord)) } := by
  have choose : chooseMessage s = s := by simp [chooseMessage, htx, hr, he]
  have next : nextWord s = noWord := by simp [nextWord, htx]
  rw [egressStep, choose, next]
  simp [countSent, messageSentStep, depart, htx]

/-- R164: a waiting reply is chosen. -/
theorem chooseMessage_reply {s : State} {r : Reply} {rest : List Reply} (htx : s.tx = none)
    (hr : s.cmd.replies = r :: rest) : chooseMessage s = s.setTx (some ⟨true, 0⟩) := by
  simp [chooseMessage, htx, hr]

/-- R164: with no reply waiting the oldest event is chosen. -/
theorem chooseMessage_event {s : State} {e : EventRecord} {rest : List EventRecord} (htx : s.tx = none)
    (hr : s.cmd.replies = []) (he : s.events.queue = e :: rest) : chooseMessage s = s.setTx (some ⟨false, 0⟩) := by
  simp [chooseMessage, htx, hr, he]

section

variable {s : State} {b : Bool} (hc : chooseMessage s = s.setTx (some ⟨b, 0⟩))

include hc

/-- R164: before the last word of the message, each step has sent one word more. -/
theorem egressStep_iterate {n : Nat} (hn : n + 1 < (txWords s ⟨b, 0⟩).length) :
    egressStep^[n + 1] s = sending s (some ⟨b, n + 1⟩) (some (frameOf s.out.slot (txWords s ⟨b, 0⟩) n)) := by
  induction n with
  | zero =>
    rw [Function.iterate_one, egressStep_choose hc, egressStep_sending]
    exact if_neg (Nat.not_le.2 hn)
  | succ n ih =>
    rw [Function.iterate_succ_apply', ih (by omega), egressStep_sending]
    exact if_neg (Nat.not_le.2 hn)

/-- R165: with the last word of the message it is removed. -/
theorem egressStep_iterate_last {n : Nat} (hn : n + 2 = (txWords s ⟨b, 0⟩).length) :
    egressStep^[n + 2] s = (removeSent ⟨b, n + 2⟩ (sending s (some ⟨b, n + 2⟩)
      (some (frameOf s.out.slot (txWords s ⟨b, 0⟩) (n + 1))))).setTx none := by
  rw [Function.iterate_succ_apply', egressStep_iterate hc (by omega), egressStep_sending]
  exact if_pos hn.ge

/-- R164: the departing frames carry the words of the message in order. -/
theorem departed_iterate {n i : Nat} (hn : n + 2 = (txWords s ⟨b, 0⟩).length) (hi : i < n + 2) :
    (egressStep^[i + 1] s).out.departed = some (frameOf s.out.slot (txWords s ⟨b, 0⟩) i) := by
  rcases Nat.lt_or_eq_of_le (Nat.le_of_lt_succ hi) with h | rfl
  · rw [egressStep_iterate hc (by omega)]; rfl
  · rw [egressStep_iterate_last hc hn]; cases b <;> rfl

end

/-- R156, R165: a message has a word for its HEAD and one for its CHECK besides its body. -/
theorem messageWords_length (code : BitVec 8) (event : Bool) (body : List Word) :
    (messageWords code event body).length = body.length + 2 := by
  simp [messageWords]

/-- R167: the HEAD of a reply. -/
theorem downHead_reply (code : BitVec 8) {n : Nat} (hn : n ≤ 61) :
    downHead code false n = code ++ BitVec.ofNat 8 n := by
  simp [downHead, bit, Nat.mod_eq_of_lt (show n < 64 by omega)]

/-- R164: with nothing in transmission and no reply waiting, the HEAD of the oldest event departs. -/
theorem egressStep_begins_event {s : State} {e : EventRecord} {rest : List EventRecord} (htx : s.tx = none)
    (hr : s.cmd.replies = []) (he : s.events.queue = e :: rest) :
    egressStep s = sending s (some ⟨false, 1⟩) (some (formFrame
      (departingFrame s.out.slot (.head, BitVec.ofNat 8 (kindNum e.kind).val ++ (70 : BitVec 8))))) := by
  have words := txWords_event he 0
  have len : 0 + 1 < (txWords s ⟨false, 0⟩).length := by
    rw [words, eventMessage, messageWords_length]; omega
  have first := egressStep_iterate (chooseMessage_event htx hr he) len
  rw [words] at first
  exact first

/-- Settles O6: the steps before the last send a word each, and the last step removes the message. -/
theorem messagesAreSentWhole : Obligations.MessagesAreSentWhole := by
  constructor
  · intro s r rest htx hr hb head words
    have whole : txWords s ⟨true, 0⟩ = words := by
      rw [txWords_reply hr, replyMessage, messageWords, downHead_reply r.code hb]
    have len : r.body.length + 2 = (txWords s ⟨true, 0⟩).length := by
      rw [txWords_reply hr]; exact (messageWords_length ..).symm
    have hc := chooseMessage_reply htx hr
    rw [← whole, ← len]
    refine ⟨fun i hi => departed_iterate hc len hi,
      ⟨some (frameOf s.out.slot (txWords s ⟨true, 0⟩) (r.body.length + 1)), ?_⟩⟩
    rw [egressStep_iterate_last hc len]
    simp [removeSent, sending, State.setTx, State.setCmd, hr, htx]
  · intro s e rest htx hr he head words
    have whole : txWords s ⟨false, 0⟩ = words := by
      rw [txWords_event he]; rfl
    have hc := chooseMessage_event htx hr he
    have len : 6 + 2 = (txWords s ⟨false, 0⟩).length := by
      rw [txWords_event he, eventMessage, messageWords_length]; rfl
    rw [← whole, ← len]
    refine ⟨rfl, fun i hi => departed_iterate hc len hi,
      ⟨some (frameOf s.out.slot (txWords s ⟨false, 0⟩) 7), ?_⟩⟩
    rw [egressStep_iterate_last hc len]
    simp [removeSent, sending, State.setTx, State.setEvents, he, htx]

end Sys2Proof.SampleLink
end

section
/-! Arrivals (R5): the steps of a served slot, and a slot in IDLE that passes through (R11). -/

namespace Sys2Proof.SampleLink

open Sys2Proof Sys2Proof.Machine Sys2Proof.Safety

/-! ### The steps of a served slot -/

/-- R14: a part that serves takes the slot. -/
theorem exec_arrival {s : State} (h : s.serving = true) (bits : BitVec 127) :
    exec (.arrival bits) s = .next (servedArrival (parseFrame bits) s) := by
  simp only [State.serving, State.live, Bool.and_eq_true, Bool.not_eq_true'] at h
  obtain ⟨⟨hs, hr⟩, hb⟩ := h
  simp [exec, execArrival, arrivalStep, hs, hr, hb]

/-- A marker that the film-position unit does nothing with, and that starts or stops no reel. -/
def quietMarker (m : Marker) : Prop := m = .none ∨ m = .perf

/-- R166: the codes of the quiet markers, with the unused code 7. -/
theorem quietMarker_markerOf {b : BitVec 3} (h : b = 0 ∨ b = 1 ∨ b = 7) : quietMarker (markerOf b) := by
  rcases h with rfl | rfl | rfl
  · exact .inl rfl
  · exact .inr rfl
  · exact .inl rfl

/-- R3: the marker-error count of a slot. -/
def markerCounted (f : Option LinkFrame) (s : State) : State :=
  s.setCounters { s.counters with
    markerError := if markerError f then satInc s.counters.markerError else s.counters.markerError }

/-- R3, R35: a quiet marker is delivered without effect. -/
theorem deliver_quiet {f : Option LinkFrame} (h : quietMarker (deliveredMarker f)) (s : State) :
    deliver f s = markerCounted f s := by
  have nothing (u : State) : deliverMarker (deliveredMarker f) u = u := by
    rcases h with h | h <;> rw [h] <;> rfl
  rw [deliver, nothing, markerCounted]
  split <;> rfl

/-- R3: the unused code 7, and a marker on an IDLE frame, are marker errors. -/
theorem markerError_iff (f : LinkFrame) :
    markerError (some f) = true ↔ f.markerCode = 7 ∨ (¬ f.ftype = .sample ∧ f.markerCode ≠ 0) := by
  obtain ⟨ft, code, x, k, w⟩ := f
  cases ft
  · simp only [markerError, bne_iff_ne, ne_eq, reduceCtorEq, not_false_eq_true, true_and]
    exact ⟨.inr, fun h => h.elim (by rintro rfl; decide) id⟩
  · simp [markerError]

/-- R157: a frame without a control word does nothing to the command unit. -/
theorem takeControl_none {f : LinkFrame} (h : f.kind = .none) (s : State) : takeControl (some f) s = s := by
  simp [takeControl, h]

/-- R157: the BAD indication marks the message in assembly CORRUPT. -/
theorem takeBad_eq (s : State) : takeBad s =
    s.setCmd { s.cmd with assembly := s.cmd.assembly.map fun a => { a with corrupt := true } } := by
  unfold takeBad
  split
  · next h => rw [h, Option.map_none, ← h]; rfl
  · next a h => rw [h]; rfl

/-! ### The link condition (R6 to R8) -/

/-- R8: a slot that is not bad clears the count; on a good link that is all. -/
theorem updateLink_good {c : SlotClass} {before : StreamState} {s : State} (hc : countsBad c before = false)
    (hg : s.link.cond = .good) : updateLink c before s = s.setLink ⟨.good, 0, s.link.lastAccepted⟩ := by
  simp [updateLink, hc, linkRestoredStep, hg]

/-- R8: a slot that is not bad restores a lost link. -/
theorem updateLink_restores {c : SlotClass} {before : StreamState} {s : State} (hc : countsBad c before = false)
    (hl : s.link.cond = .lost) : updateLink c before s =
      raise .linkRestored none none (s.setLink ⟨.good, 0, s.link.lastAccepted⟩) := by
  simp [updateLink, hc, linkRestoredStep, hl, State.setLink]

/-- R8: a slot that is not bad leaves the link GOOD, with the count cleared and perhaps an event. -/
theorem updateLink_accepts {c : SlotClass} {before : StreamState} {s : State} (hc : countsBad c before = false) :
    ∃ e, updateLink c before s = (s.setLink ⟨.good, 0, s.link.lastAccepted⟩).setEvents e := by
  cases hg : s.link.cond with
  | good => exact ⟨s.events, updateLink_good hc hg⟩
  | lost => exact ⟨_, updateLink_restores hc hg⟩

/-- R6, R7: the link is lost only from GOOD and only at the count of 256. -/
theorem linkLostStep_of_not {s : State} (h : ¬ (s.link.cond = .good ∧ s.link.badCount = 256)) :
    linkLostStep s = s := if_neg h

/-- R6: the dropout count of a slot. -/
def dropoutCounted (c : SlotClass) (before : StreamState) (s : State) : State :=
  s.setCounters { s.counters with
    dropout := if isDropout c before then satInc s.counters.dropout else s.counters.dropout }

@[simp] theorem dropoutCounted_bad (before : StreamState) (s : State) : dropoutCounted .bad before s = s := rfl

/-- R6: a bad slot that does not lose the link is counted. -/
theorem updateLink_bad {c : SlotClass} {before : StreamState} {s : State} (hc : countsBad c before = true)
    (h : s.link.cond = .lost ∨ s.link.badCount < 255) : updateLink c before s =
      (dropoutCounted c before s).setLink { s.link with badCount := min 256 (s.link.badCount + 1) } := by
  have counted : (if isDropout c before then countDropout s else s) = dropoutCounted c before s := by
    unfold dropoutCounted; split <;> rfl
  rw [updateLink, if_pos hc, counted]
  apply linkLostStep_of_not
  rintro ⟨hg, hn⟩
  rcases h with h | h
  · exact absurd (hg.symm.trans h) (by decide)
  · have : min 256 (s.link.badCount + 1) = 256 := hn
    omega

/-! ### A slot in IDLE (R11) -/

/-- R11: a SAMPLE slot in IDLE that starts no stream passes through and is counted. -/
theorem streamStep_idle_sample {s : State} {m : Marker} (x : Quad Sample) (hi : s.stream.state = .idle)
    (ha : s.stream.armed = false) (hm : quietMarker m) :
    streamStep m (.sample x) s = (countSlot s).setOut { s.out with slot := ⟨.sample, m, x⟩ } := by
  have notStart : m ≠ .reelStart := by rintro rfl; cases hm <;> contradiction
  simp only [streamStep, State.setOut_stream, hi, arriveIdle]
  simp [markerStarts, noteMarkerStart, notStart, ha, countSlot, State.setOut, State.setFilm]

/-- What a quiet SAMPLE or IDLE slot makes of an IDLE part before its link condition is taken. -/
def passed (f : LinkFrame) (s : State) : State :=
  { s with
    film := { s.film with offset := if f.ftype = .sample then satInc s.film.offset else s.film.offset }
    counters := { s.counters with markerError :=
      if f.markerCode = 7 ∨ (¬ f.ftype = .sample ∧ f.markerCode ≠ 0) then satInc s.counters.markerError
      else s.counters.markerError }
    out := { s.out with slot :=
      if f.ftype = .sample then ⟨.sample, markerOf f.markerCode, f.samples⟩ else ⟨.idle, .none, Quad.all 0⟩ } }

/-- R4: an IDLE slot in IDLE leaves an empty slot. -/
theorem streamStep_idle_idle {s : State} (m : Marker) (hi : s.stream.state = .idle) :
    streamStep m .idle s = s.setOut { s.out with slot := idleSlot } := by
  simp only [streamStep, State.setOut_stream, hi, arriveIdle]

/-- R3, R11: the marker and stream steps of a quiet slot that passes through. -/
theorem streamStep_passes {s : State} {f : LinkFrame} (hi : s.stream.state = .idle) (ha : s.stream.armed = false)
    (hm : quietMarker (deliveredMarker (some f))) :
    streamStep (deliveredMarker (some f)) (classOf (some f)) (markerCounted (some f) s) = passed f s := by
  rw [passed]
  simp only [← markerError_iff]
  obtain ⟨ft, code, x, k, w⟩ := f
  cases ft with
  | idle => exact streamStep_idle_idle _ hi
  | sample => exact streamStep_idle_sample x hi ha hm

/-- R3: the marker delivered for a slot that brings none, PERF or the unused code is quiet. -/
theorem deliveredMarker_quiet {f : LinkFrame}
    (hm : f.ftype = .sample → f.markerCode = 0 ∨ f.markerCode = 1 ∨ f.markerCode = 7) :
    quietMarker (deliveredMarker (some f)) := by
  obtain ⟨ft, code, x, k, w⟩ := f
  cases ft with
  | idle => exact .inl rfl
  | sample => exact quietMarker_markerOf (hm rfl)

/-- R5: a slot with a quiet marker and no control word. -/
theorem servedArrival_quiet {s : State} {f : LinkFrame} (hm : quietMarker (deliveredMarker (some f)))
    (hk : f.kind = .none) : servedArrival (some f) s =
      egressStep (updateLink (classOf (some f)) s.stream.state
        (streamStep (deliveredMarker (some f)) (classOf (some f)) (markerCounted (some f) s))) := by
  have taken : servedArrival (some f) s = egressStep (updateLink (classOf (some f)) s.stream.state
      (takeControl (some f) (streamStep (deliveredMarker (some f)) (classOf (some f)) (deliver (some f) s)))) := rfl
  rw [taken, takeControl_none hk, deliver_quiet hm]

/-- R3, R11: a quiet slot passes through an IDLE part. -/
theorem servedArrival_passes {s : State} {f : LinkFrame} (hi : s.stream.state = .idle)
    (ha : s.stream.armed = false) (hk : f.kind = .none)
    (hm : f.ftype = .sample → f.markerCode = 0 ∨ f.markerCode = 1 ∨ f.markerCode = 7) :
    servedArrival (some f) s = egressStep (updateLink (classOf (some f)) .idle (passed f s)) := by
  have quiet := deliveredMarker_quiet hm
  rw [servedArrival_quiet quiet hk, streamStep_passes hi ha quiet, hi]

/-- R5: a BAD slot. -/
theorem servedArrival_bad (s : State) : servedArrival none s =
    egressStep (updateLink .bad s.stream.state (takeBad (streamStep .none .bad (countBadFrame s)))) := rfl

/-- R2, R4, R6: a BAD slot in IDLE. -/
theorem servedArrival_bad_idle {s : State} (hi : s.stream.state = .idle)
    (hl : s.link.cond = .lost ∨ s.link.badCount < 255) :
    servedArrival none s = egressStep { s with
      link := { s.link with badCount := min 256 (s.link.badCount + 1) }
      counters := { s.counters with badFrame := satInc s.counters.badFrame }
      cmd := { s.cmd with assembly := s.cmd.assembly.map fun a => { a with corrupt := true } }
      out := { s.out with slot := idleSlot } } := by
  have step : streamStep .none .bad (countBadFrame s) = (countBadFrame s).setOut { s.out with slot := idleSlot } := by
    simp [streamStep, hi, countBadFrame, arriveIdle]
  rw [servedArrival_bad, step, takeBad_eq, updateLink_bad rfl (by exact hl), dropoutCounted_bad]
  simp only [countBadFrame, State.setLink, State.setCmd, State.setOut, State.setCounters]

/-- R6: in IDLE only a BAD slot counts as bad. -/
theorem countsBad_idle (f : LinkFrame) : countsBad (classOf (some f)) .idle = false := by
  obtain ⟨ft, code, x, k, w⟩ := f
  cases ft <;> rfl

/-- Settles O46: the slot passes through the five steps of R5, and the arbiter has nothing to send, or the
LINK_RESTORED that the link condition has just raised. -/
theorem idleSlotPassesThrough : Obligations.IdleSlotPassesThrough := by
  intro s hv hi ha htx hr he
  refine ⟨fun f hk hm => ⟨fun hg => ?_, fun hl => ?_⟩, fun bits hb hl => ?_⟩
  · rw [exec_arrival hv, parseFrame_formFrame, servedArrival_passes hi ha hk hm,
      updateLink_good (countsBad_idle f) (by exact hg)]
    exact congrArg Host.Outcome.next (egressStep_quiet htx hr he)
  · rw [exec_arrival hv, parseFrame_formFrame, servedArrival_passes hi ha hk hm,
      updateLink_restores (countsBad_idle f) (by exact hl)]
    intro v
    rcases hq : v.events.queue with _ | ⟨e, rest⟩
    · exact congrArg Host.Outcome.next (egressStep_quiet (by exact htx) (by exact hr) (by exact hq))
    · exact congrArg Host.Outcome.next (egressStep_begins_event (by exact htx) (by exact hr) (by exact hq))
  · rw [exec_arrival hv, hb, servedArrival_bad_idle hi hl]
    exact congrArg Host.Outcome.next (egressStep_quiet htx hr he)

end Sys2Proof.SampleLink
end

section
/-! What the reads, the faults, the closes and the stages leave of the state, said once for the arrivals. -/

namespace Sys2Proof.SampleLink

open Sys2Proof Sys2Proof.Machine Sys2Proof.Safety

/-! ### What stands -/

/-- A record without the values and the marks that the stages rewrite in the ring: what R29 keeps, with the flags
that an entry takes at its admission (R10, R63). -/
def bareRecord (r : FrameRecord) : FrameRecord :=
  { r with entries := Quad.build fun ch =>
      { r.entries.get ch with
        cell := ⟨0, false⟩
        flags := { noFlags with
          link := (r.entries.get ch).flags.link
          noAdaptP := (r.entries.get ch).flags.noAdaptP
          noAdaptM := (r.entries.get ch).flags.noAdaptM } } }

/-- The counters without those of the tracker, the canceller, the detector and the log. -/
def linkCounters (c : Counters) : Counters :=
  { c with perfOutlier := 0, subClip := 0, detected := 0, longDefect := 0, logLost := 0 }

/-- A state without what the stages work on: the templates and phases, the detectors, the log, the fault unit, the
events, and what is left out of the records and counters. -/
def standing (s : State) : State :=
  { s with
    ring := s.ring.map bareRecord
    canc := State.reset.canc
    det := State.reset.det
    log := State.reset.log
    tables := { s.tables with fault0 := false, fault1 := false }
    events := State.reset.events
    fault := State.reset.fault
    counters := linkCounters s.counters
    work := State.reset.work }

/-- An operation of the stages: what stands is left, and the events are raisings. -/
structure Kept (s t : State) : Prop where
  stands : standing t = standing s
  raised : RaisedAfter s.events t.events

/-- An operation of the stages that opens no context. -/
structure Closing (s t : State) : Prop extends Kept s t where
  opensNone : ∀ ch, (s.det.get ch).ctx = none → (t.det.get ch).ctx = none

namespace Kept

variable {s t u : State}

theorem refl (s : State) : Kept s s := ⟨rfl, raisedAfter_refl _⟩

theorem trans (a : Kept s t) (b : Kept t u) : Kept s u :=
  ⟨b.stands.trans a.stands, raisedAfter_trans a.raised b.raised⟩

theorem ite {p : Prop} [Decidable p] (a : Kept s t) (b : Kept s u) : Kept s (if p then t else u) := by
  split <;> assumption

section

variable (h : Kept s t)

include h

theorem power : t.power = s.power := congrArg (·.power) h.stands
theorem link : t.link = s.link := congrArg (·.link) h.stands
theorem stream : t.stream = s.stream := congrArg (·.stream) h.stands
theorem film : t.film = s.film := congrArg (·.film) h.stands
theorem tracker : t.tracker = s.tracker := congrArg (·.tracker) h.stands
theorem lastOut : t.lastOut = s.lastOut := congrArg (·.lastOut) h.stands
theorem hiss : t.hiss = s.hiss := congrArg (·.hiss) h.stands
theorem cmd : t.cmd = s.cmd := congrArg (·.cmd) h.stands
theorem tx : t.tx = s.tx := congrArg (·.tx) h.stands
theorem store : t.store = s.store := congrArg (·.store) h.stands
theorem out : t.out = s.out := congrArg (·.out) h.stands
theorem upset : t.upset = s.upset := congrArg (·.upset) h.stands
theorem bank0 : t.tables.bank0 = s.tables.bank0 := congrArg (·.tables.bank0) h.stands
theorem bank1 : t.tables.bank1 = s.tables.bank1 := congrArg (·.tables.bank1) h.stands
theorem active : t.tables.active = s.tables.active := congrArg (·.tables.active) h.stands
theorem other : t.tables.other = s.tables.other := congrArg (·.tables.other) h.stands
theorem pendingX : t.tables.pendingX = s.tables.pendingX := congrArg (·.tables.pendingX) h.stands
theorem badFrame : t.counters.badFrame = s.counters.badFrame := congrArg (·.counters.badFrame) h.stands
theorem dropout : t.counters.dropout = s.counters.dropout := congrArg (·.counters.dropout) h.stands
theorem markerError : t.counters.markerError = s.counters.markerError := congrArg (·.counters.markerError) h.stands
theorem linkLoss : t.counters.linkLoss = s.counters.linkLoss := congrArg (·.counters.linkLoss) h.stands
theorem drainedInput : t.counters.drainedInput = s.counters.drainedInput :=
  congrArg (·.counters.drainedInput) h.stands
theorem bareRing : t.ring.map bareRecord = s.ring.map bareRecord := congrArg (·.ring) h.stands

/-- R136: the contents of both banks stand, and so does what a read of them gives. -/
theorem setting (b : BankId) (r : FieldRef) : Machine.setting t b r = Machine.setting s b r := by
  cases b <;> simp only [Machine.setting, storedField, bankOf, h.bank0, h.bank1]

end

end Kept

namespace Closing

variable {s t u : State}

theorem refl (s : State) : Closing s s := ⟨.refl s, fun _ h => h⟩

theorem trans (a : Closing s t) (b : Closing t u) : Closing s u :=
  ⟨a.toKept.trans b.toKept, fun ch h => b.opensNone ch (a.opensNone ch h)⟩

theorem ite {p : Prop} [Decidable p] (a : Closing s t) (b : Closing s u) : Closing s (if p then t else u) := by
  split <;> assumption

end Closing

/-- An operation on the channels in turn leaves what each of them leaves. -/
theorem kept_eachChannel {f : Channel → State → State} (h : ∀ c s, Kept s (f c s)) (s : State) :
    Kept s (eachChannel f s) := (((h _ _).trans (h _ _)).trans (h _ _)).trans (h _ _)

theorem closing_eachChannel {f : Channel → State → State} (h : ∀ c s, Closing s (f c s)) (s : State) :
    Closing s (eachChannel f s) := (((h _ _).trans (h _ _)).trans (h _ _)).trans (h _ _)

/-- The names of the records that R29 gives are among what stands of them. -/
theorem recordKey_bareRecord (r : FrameRecord) : recordKey (bareRecord r) = recordKey r := by
  simp [recordKey, bareRecord]

theorem map_recordKey_bare (ring : List FrameRecord) :
    (ring.map bareRecord).map recordKey = ring.map recordKey := by
  rw [List.map_map]
  exact List.map_congr_left fun r _ => recordKey_bareRecord r

/-- R29: the names of the ring's records stand. -/
theorem Kept.ring {s t : State} (h : Kept s t) : t.ring.map recordKey = s.ring.map recordKey := by
  rw [← map_recordKey_bare, h.bareRing, map_recordKey_bare]

/-! ### The updates -/

variable (s : State)

theorem closing_raise (k : EventKind) (ch : Option Channel) (p : Option (BitVec 32)) : Closing s (raise k ch p s) :=
  ⟨⟨rfl, raisedAfter_one _ _⟩, fun _ h => h⟩

theorem closing_setLog (l : DefectLog) : Closing s (s.setLog l) := ⟨⟨rfl, raisedAfter_refl _⟩, fun _ h => h⟩

theorem closing_setFault (f : FaultUnit) : Closing s (s.setFault f) := ⟨⟨rfl, raisedAfter_refl _⟩, fun _ h => h⟩

theorem closing_setWork (w : Work) : Closing s (s.setWork w) := ⟨⟨rfl, raisedAfter_refl _⟩, fun _ h => h⟩

theorem kept_setCanc (c : Canceller) : Kept s (s.setCanc c) := ⟨rfl, raisedAfter_refl _⟩

theorem kept_setDetector (c : Channel) (d : Detector) : Kept s (setDetector c d s) := ⟨rfl, raisedAfter_refl _⟩

theorem closing_countLogLost : Closing s (countLogLost s) := ⟨⟨rfl, raisedAfter_refl _⟩, fun _ h => h⟩

theorem kept_countDetected : Kept s (countDetected s) := ⟨rfl, raisedAfter_refl _⟩

theorem kept_countLong : Kept s (countLong s) := ⟨rfl, raisedAfter_refl _⟩

theorem kept_countClip : Kept s (countClip s) := ⟨rfl, raisedAfter_refl _⟩

theorem kept_countOutlier : Kept s (countOutlier s) := ⟨rfl, raisedAfter_refl _⟩

theorem closing_tableFault (b : BankId) (v : Bool) : Closing s (s.setTables (withTableFault s.tables b v)) := by
  cases b <;> exact ⟨⟨rfl, raisedAfter_refl _⟩, fun _ h => h⟩

/-- A detector replaced by one that has a context only where the old one had. -/
theorem closing_setDetector (c : Channel) (d : Detector) (h : (s.det.get c).ctx = none → d.ctx = none) :
    Closing s (setDetector c d s) := by
  refine ⟨kept_setDetector s c d, fun ch hch => ?_⟩
  rw [setDetector_det, Quad.get_set]
  split
  · next e => exact h (e ▸ hch)
  · exact hch

theorem closing_setRing {ring : List FrameRecord} (h : ring.map bareRecord = s.ring.map bareRecord) :
    Closing s (s.setRing ring) :=
  ⟨⟨congrArg (fun x => { standing s with ring := x }) h, raisedAfter_refl _⟩, fun _ h => h⟩

/-- R29: a change of a value, or of a mark that is not taken at the admission, leaves what stands of a record. -/
theorem bareRecord_setEntry (r : FrameRecord) (ch : Channel) (e : Entry)
    (bins : e.perfBin = (r.entries.get ch).perfBin ∧ e.mainsBin = (r.entries.get ch).mainsBin)
    (flags : e.flags.link = (r.entries.get ch).flags.link ∧ e.flags.noAdaptP = (r.entries.get ch).flags.noAdaptP ∧
      e.flags.noAdaptM = (r.entries.get ch).flags.noAdaptM) :
    bareRecord { r with entries := r.entries.set ch e } = bareRecord r := by
  obtain ⟨hp, hm⟩ := bins
  obtain ⟨hl, hnp, hnm⟩ := flags
  unfold bareRecord
  congr 1
  apply Quad.ext_get
  intro c
  rw [Quad.get_build, Quad.get_build, Quad.get_set]
  split
  · next e => subst e; simp [hp, hm, hl, hnp, hnm]
  · rfl

/-- A rewriting of an entry that leaves its bins and the flags of its admission. -/
def LeavesAdmitted (f : Entry → Entry) : Prop :=
  ∀ e, ((f e).perfBin = e.perfBin ∧ (f e).mainsBin = e.mainsBin) ∧
    (f e).flags.link = e.flags.link ∧ (f e).flags.noAdaptP = e.flags.noAdaptP ∧
      (f e).flags.noAdaptM = e.flags.noAdaptM

theorem leavesAdmitted_markFlagged : LeavesAdmitted markFlagged := fun _ => ⟨⟨rfl, rfl⟩, rfl, rfl, rfl⟩

theorem leavesAdmitted_markMemory : LeavesAdmitted markMemory := fun _ => ⟨⟨rfl, rfl⟩, rfl, rfl, rfl⟩

theorem map_bareRecord_ringUpdate {f : Entry → Entry} (h : LeavesAdmitted f) (p : Serial) (ch : Channel)
    (ring : List FrameRecord) : (ringUpdate p ch f ring).map bareRecord = ring.map bareRecord := by
  rw [ringUpdate, List.map_map]
  apply List.map_congr_left
  intro r _
  simp only [Function.comp]
  split
  · exact bareRecord_setEntry r ch _ (h _).1 (h _).2
  · rfl

theorem closing_ringUpdate {f : Entry → Entry} (h : LeavesAdmitted f) (p : Serial) (ch : Channel) :
    Closing s (s.setRing (ringUpdate p ch f s.ring)) := closing_setRing s (map_bareRecord_ringUpdate h p ch _)

theorem map_bareRecord_fillRing (ch : Channel) (first : Serial) (g : Nat) (v : Nat → Sample) (held : Bool)
    (ring : List FrameRecord) : (fillRing ch first g v held ring).map bareRecord = ring.map bareRecord := by
  rw [fillRing, List.map_map]
  apply List.map_congr_left
  intro r _
  simp only [Function.comp]
  split
  · apply bareRecord_setEntry
    · exact ⟨rfl, rfl⟩
    · cases held <;> exact ⟨rfl, rfl, rfl⟩
  · rfl

theorem map_bareRecord_fillDefect (ch : Channel) (first last : Serial) (a b : Option Sample)
    (ring : List FrameRecord) : (fillDefect ch first last a b ring).map bareRecord = ring.map bareRecord := by
  unfold fillDefect
  cases a <;> cases b
  · rfl
  all_goals exact map_bareRecord_fillRing ..

/-! ### The log (R114 to R116) -/

theorem closing_dropLogIndex (ch : Channel) : Closing s (dropLogIndex ch s) :=
  closing_setDetector s ch _ fun h => by rw [h]; rfl

theorem closing_discardOldest : Closing s (discardOldest s) := by
  have counted := (closing_setLog s { s.log with readIdx := s.log.readIdx + 1, unread := 255 }).trans
    (closing_countLogLost _)
  have reported := counted.trans (Closing.ite (p := s.log.overrunReported = true) (Closing.refl _)
    ((closing_setLog _ { s.log with readIdx := s.log.readIdx + 1, unread := 255, overrunReported := true }).trans
      (closing_raise _ .logOverrun none (some (satInc s.counters.logLost)))))
  unfold discardOldest
  dsimp only
  split
  · exact reported.trans (.ite (closing_dropLogIndex _ _) (.refl _))
  · exact reported

theorem closing_appendEntry (e : LogEntry) : Closing s (appendEntry e s) := by
  have room : Closing s (if s.log.unread = Config.logSlots then discardOldest s else s) :=
    .ite (closing_discardOldest s) (.refl s)
  unfold appendEntry
  refine Closing.trans ?_ (closing_setLog _ _)
  refine Closing.trans ?_ (.ite (closing_raise ..) (.ite (closing_raise ..) (.refl _)))
  exact room.trans (closing_setLog _ _)

theorem closing_completeEntry (i : BitVec 8) (o : DefectOutcome) (c : Context) :
    Closing s (completeEntry i o c s) := by
  unfold completeEntry
  split
  · exact .refl s
  · exact closing_setLog s _

theorem closing_recordClose (ch : Channel) (o : DefectOutcome) (c : Context) (m : Nat) :
    Closing s (recordClose ch o c m s) := by
  unfold recordClose
  split
  · exact closing_completeEntry s ..
  · exact .ite (closing_appendEntry s _) (.refl s)

/-! ### Repairs (R96 to R106) -/

theorem closing_readAnchor (ch : Channel) (p : Serial) (c : Option Cell) : Closing s (readAnchor ch p c s) := by
  unfold readAnchor
  split
  · exact .ite (.refl s) ((closing_ringUpdate s leavesAdmitted_markMemory p ch).trans (closing_raise ..))
  · exact .refl s

theorem closing_repair (ch : Channel) (first last : Serial) (sp : Span) : Closing s (repair ch first last sp s) :=
  ((closing_readAnchor s ..).trans (closing_readAnchor ..)).trans (closing_setRing _ (map_bareRecord_fillDefect ..))

/-! ### Reads of table memory, faults and closes (R89, R91, R150, R176 to R178) -/

theorem closing_notePolicy (k : FaultKind) : Closing s (notePolicy k s) :=
  .ite (.refl s) (closing_tableFault s _ _)

theorem closing_takeFaultWith {leave : State → State} (h : ∀ s, Closing s (leave s)) (k : FaultKind)
    (ch : Option Channel) (e : Option Engine) : Closing s (takeFaultWith leave k ch e s) := by
  unfold takeFaultWith
  split
  · have noted := ((closing_setFault s { s.fault with capture := some (captureOf s k ch e) }).trans
      (closing_raise _ .fault ch (some (faultParam k e)))).trans (closing_notePolicy _ k)
    exact noted.trans (.ite ((closing_setFault _ _).trans (h _)) (.refl _))
  · have latched := closing_setFault s { s.fault with mode := .latched }
    exact ((latched.trans (.ite (h _) (.refl _))).trans (closing_setFault _ _)).trans (closing_raise ..)

theorem closing_noteWith {take : FaultKind → Option Channel → Option Engine → State → State}
    (h : ∀ k ch e s, Closing s (take k ch e s)) (b : BankId) (r : FieldRef) : Closing s (noteWith take b r s) :=
  .ite (.refl s) (.ite (.refl s) ((closing_tableFault s b true).trans (h ..)))

theorem closing_noteInner (b : BankId) (r : FieldRef) : Closing s (noteInner b r s) :=
  closing_noteWith s (fun k ch e s => closing_takeFaultWith s Closing.refl k ch e) b r

theorem closing_closeOne (ch : Channel) (spanLast : Serial) : Closing s (closeOne ch spanLast s) := by
  unfold closeOne
  split
  · exact .refl s
  · refine Closing.trans ?_ (closing_setDetector _ ch _ fun _ => rfl)
    refine Closing.trans ?_ (closing_recordClose _ ..)
    exact (Closing.ite (.refl s) (closing_repair s ..)).trans (closing_noteInner ..)

theorem closing_emptyHistories : Closing s (emptyHistories s) :=
  ⟨⟨rfl, raisedAfter_refl _⟩, fun ch h => by simpa [emptyHistories] using h⟩

theorem closing_bypassCloses : Closing s (bypassCloses s) :=
  (closing_eachChannel (fun _ s => closing_closeOne s _ _) s).trans (closing_emptyHistories _)

theorem closing_leaveNormal : Closing s (leaveNormal s) := .ite (closing_setWork s _) (closing_bypassCloses s)

theorem closing_takeFault (k : FaultKind) (ch : Option Channel) (e : Option Engine) :
    Closing s (takeFault k ch e s) := closing_takeFaultWith s closing_leaveNormal k ch e

theorem closing_note (b : BankId) (r : FieldRef) : Closing s (note b r s) :=
  closing_noteWith s (fun k ch e s => closing_takeFault s k ch e) b r

theorem closing_closeContext (ch : Channel) (spanLast : Serial) : Closing s (closeContext ch spanLast s) :=
  .ite ((closing_closeOne s ch spanLast).trans (closing_leaveNormal _)) (closing_closeOne s ch spanLast)

theorem closing_normalCloseStep (ch : Channel) : Closing s (normalCloseStep ch s) := by
  unfold normalCloseStep
  split
  · exact .ite (closing_closeContext s ..) (.refl s)
  · exact .refl s

theorem closing_endAdmission : Closing s (endAdmission s) :=
  (closing_setWork s _).trans (.ite (closing_bypassCloses _) (.refl _))

theorem kept_note (b : BankId) (r : FieldRef) : Kept s (note b r s) := (closing_note s b r).toKept

theorem kept_noteActive (r : FieldRef) : Kept s (noteActive r s) := kept_note s _ r

theorem kept_raise (k : EventKind) (ch : Option Channel) (p : Option (BitVec 32)) : Kept s (raise k ch p s) :=
  (closing_raise s k ch p).toKept

theorem kept_ringUpdate {f : Entry → Entry} (h : LeavesAdmitted f) (p : Serial) (ch : Channel) :
    Kept s (s.setRing (ringUpdate p ch f s.ring)) := (closing_ringUpdate s h p ch).toKept

end Sys2Proof.SampleLink
end

section
/-! The loss of the link (R7, R19, R25): the closes at the entry to DRAINING. -/

namespace Sys2Proof.SampleLink

open Sys2Proof Sys2Proof.Machine Sys2Proof.Safety

/-! ### Closes (R89, R91) -/

/-- R89: a closed context is NONE. -/
theorem closeOne_ctx (ch : Channel) (spanLast : Serial) (s : State) :
    ((closeOne ch spanLast s).det.get ch).ctx = none := by
  unfold closeOne
  split
  · assumption
  · simp [clearContext]

theorem closeContext_ctx (ch : Channel) (spanLast : Serial) (s : State) :
    ((closeContext ch spanLast s).det.get ch).ctx = none := by
  unfold closeContext
  dsimp only
  split
  · exact (closing_leaveNormal _).opensNone ch (closeOne_ctx ch spanLast s)
  · exact closeOne_ctx ch spanLast s

/-- R91: with no context open a close does nothing. -/
theorem closeContext_none {ch : Channel} {s : State} (h : (s.det.get ch).ctx = none) (spanLast : Serial) :
    closeContext ch spanLast s = s := by
  have nothing : closeOne ch spanLast s = s := by simp [closeOne, h]
  simp [closeContext, nothing]

/-- An operation that does nothing on any channel does nothing on the channels in turn. -/
theorem eachChannel_id {f : Channel → State → State} {s : State} (h : ∀ c, f c s = s) : eachChannel f s = s := by
  simp [eachChannel, h]

/-- R91: the forced closes leave no context open. -/
theorem eachChannel_close_ctx (spanLast : State → Serial) (s : State) (c : Channel) :
    ((eachChannel (fun ch t => closeContext ch (spanLast t) t) s).det.get c).ctx = none := by
  have later (u : State) (ch : Channel) : Closing u (closeContext ch (spanLast u) u) := closing_closeContext u ..
  have here (u : State) : ((closeContext c (spanLast u) u).det.get c).ctx = none := closeContext_ctx ..
  unfold eachChannel
  cases c
  · exact (later _ .ch3).opensNone _ ((later _ .ch2).opensNone _ ((later _ .ch1).opensNone _ (here s)))
  · exact (later _ .ch3).opensNone _ ((later _ .ch2).opensNone _ (here _))
  · exact (later _ .ch3).opensNone _ (here _)
  · exact here _

/-! ### The entry to DRAINING (R25) -/

/-- The detectors replaced by ones that have a context only where the old ones had. -/
theorem closing_setDet (s : State) (d : Quad Detector)
    (h : ∀ ch, (s.det.get ch).ctx = none → (d.get ch).ctx = none) : Closing s (s.setDet d) :=
  ⟨⟨rfl, raisedAfter_refl _⟩, h⟩

theorem closing_drainDetector (s : State) : Closing s (drainDetector s) := by
  have closed := closing_eachChannel (fun ch t => closing_closeContext t ch (newestSerial t)) s
  refine (closed.trans (closing_emptyHistories _)).trans (closing_setDet _ _ fun ch h => ?_)
  rwa [Quad.get_build]

/-- R91: the closes leave the templates and phases. -/
theorem drainDetector_canc (s : State) : (drainDetector s).canc = s.canc := by
  simp only [drainDetector, emptyHistories, State.setDet_canc]
  exact (inner_eachChannel (fun ch t => inner_closeContext ch (newestSerial t) t) s).canc

/-- R76, R82, R91: the detectors at the entry to DRAINING. -/
theorem drainDetector_det (s : State) (ch : Channel) :
    (drainDetector s).det.get ch = drainedDetector (s.det.get ch) := by
  have closed := eachChannel_close_ctx newestSerial s ch
  obtain ⟨level, splice, _, maxLen⟩ :=
    (inner_eachChannel (fun c t => inner_closeContext c (newestSerial t) t) s).det ch
  simp only [drainDetector, emptyHistories, State.setDet_det, Quad.get_build, drainedDetector, closed, level, splice,
    maxLen]

/-- R25, R91: with no context open the entry to DRAINING changes the detectors alone. -/
theorem drainDetector_none {s : State} (h : ∀ ch, (s.det.get ch).ctx = none) :
    drainDetector s = s.setDet (Quad.build fun ch => drainedDetector (s.det.get ch)) := by
  have nothing : eachChannel (fun ch t => closeContext ch (newestSerial t) t) s = s :=
    eachChannel_id fun c => closeContext_none (h c) _
  have entry (ch : Channel) : drainedDetector (s.det.get ch) =
      { s.det.get ch with hist := .empty, commandCount := 0 } := by
    rw [drainedDetector, ← h ch]
  simp only [drainDetector, nothing, emptyHistories, State.setDet_det, Quad.get_build, entry]
  rfl

/-! ### The row LINK_LOST (R7) -/

/-- R7, R19: the loss of the link, before what it does to a reel. -/
def linkGone (s : State) : State :=
  { s with
    link := { s.link with cond := .lost }
    stream := { s.stream with armed := false }
    counters := { s.counters with linkLoss := satInc s.counters.linkLoss }
    events := takeRaising ⟨.linkLost, none, s.film.tag, s.film.offset, none⟩ s.events }

theorem linkLostStep_eq {s : State} (hg : s.link.cond = .good) (hn : s.link.badCount = 256) :
    linkLostStep s = if inReel s.stream.state then enterDraining (linkGone s) else linkGone s :=
  if_pos ⟨hg, hn⟩

theorem exec_linkLost {s : State} (hv : s.serving = true) : exec .linkLost s = .next (linkLostStep s) := by
  simp [exec, execLinkLost, actWhen, hv]

theorem inReel_iff (st : StreamState) : inReel st = true ↔ st = .priming ∨ st = .running := by
  cases st <;> decide

/-- Settles O42: the row is `linkGone`, and in a reel the entry to DRAINING behind it, whose closes are
`drainDetector_det`. -/
theorem linkLostEndsTheReel : Obligations.LinkLostEndsTheReel := by
  intro s hv hg hn reel announced
  rw [exec_linkLost hv, linkLostStep_eq hg hn]
  refine ⟨fun h => ?_, fun h => ?_⟩
  · rw [if_neg fun hr => h ((inReel_iff _).1 hr)]; rfl
  · rw [if_pos ((inReel_iff _).2 h)]
    set u := enterState .draining (linkGone s) with hu
    have closes : Closing u (enterDraining (linkGone s)) := closing_drainDetector u
    refine ⟨_, rfl, closes.link, closes.stream, closes.linkLoss, drainDetector_det u, closes.ring, ?_,
      closes.raised, fun hc => ?_⟩
    · rw [closes.film, closes.tracker, closes.hiss, closes.cmd, closes.store]
      exact congrArg (fun c => (s.film, s.tracker, c, s.hiss, s.cmd, s.store)) (drainDetector_canc u)
    · rw [enterDraining, ← hu, drainDetector_none (s := u) hc]
      exact ⟨rfl, rfl, rfl⟩

end Sys2Proof.SampleLink
end

section
/-! Releases (R31, R107, R108, R123) and the draining of the ring (R25, R26, R149). -/

namespace Sys2Proof.SampleLink

open Sys2Proof Sys2Proof.Machine Sys2Proof.Safety

/-! ### The stages of a release -/

/-- R61: the read of a bin. -/
theorem kept_readBin (ch : Channel) (e : Engine) (b : BitVec 6) (s : State) : Kept s (readBin ch e b s) :=
  .ite (.refl s) ((kept_setCanc s _).trans (kept_raise ..))

/-- R66, R67: one adaptation. -/
theorem kept_adaptBin (bank : BankId) (ch : Channel) (e : Engine) (b : BitVec 6) (v : Sample) (s : State) :
    Kept s (adaptBin bank ch e b v s) := by
  unfold adaptBin
  refine Kept.trans ?_ (.ite (closing_takeFault ..).toKept (.refl _))
  exact ((kept_note ..).trans (kept_readBin ..)).trans (kept_setCanc ..)

theorem kept_adaptEngine (r : FrameRecord) (active : Bool) (hold : HoldSet) (failed : Bool) (v : Sample)
    (ch : Channel) (e : Engine) (s : State) : Kept s (adaptEngine r active hold failed v ch e s) :=
  .ite (kept_adaptBin ..) (.refl s)

theorem kept_adaptRecord (r : FrameRecord) (mask : Nat) (checked : Quad Sample) (hp hm : Quad HoldSet) (s : State) :
    Kept s (adaptRecord r mask checked hp hm s) :=
  kept_eachChannel (fun _ _ => (kept_adaptEngine ..).trans (kept_adaptEngine ..)) s

theorem kept_noteHolds (r : FrameRecord) (mask : Nat) (s : State) : Kept s (noteHolds r mask s) :=
  .ite (kept_eachChannel (fun _ _ => .ite ((kept_note ..).trans (kept_note ..)) (.refl _)) s) (.refl s)

theorem kept_releaseMarks (r : FrameRecord) (mask : Nat) (s : State) : Kept s (releaseMarks r mask s) :=
  kept_eachChannel (fun _ _ => .ite (kept_raise ..) (.refl _)) s

theorem kept_noteHiss (r : FrameRecord) (active failed : Bool) (y : Int) (ch : Channel) (s : State) :
    Kept s (noteHiss r active failed y ch s) := by
  refine .ite ((kept_note s ..).trans (.ite ?_ (.refl _))) (.refl s)
  exact ((((kept_note ..).trans (kept_note ..)).trans (kept_note ..)).trans (kept_note ..)).trans (kept_note ..)

/-! ### What departs (R108, R123) -/

/-- R26, R149: the part once a record has left the ring, before the record is processed. -/
def emptied (rest : List FrameRecord) (s : State) : State := checkDrained (retirementEndStep (s.setRing rest))

/-- R149: the state of the bank that is not active once the ring holds `rest`. -/
def otherAfter (rest : List FrameRecord) (s : State) : OtherState :=
  if s.tables.other = .retiring ∧ rest.countP (fun r => r.bank == s.tables.active.opposite) = 0 then .standby
  else s.tables.other

theorem retirementEndStep_setRing (rest : List FrameRecord) (s : State) :
    retirementEndStep (s.setRing rest) =
      (s.setRing rest).setTables { s.tables with other := otherAfter rest s } := by
  by_cases h : s.tables.other = .retiring ∧ rest.countP (fun r => r.bank == s.tables.active.opposite) = 0
  · rw [otherAfter, if_pos h]; exact if_pos h
  · rw [otherAfter, if_neg h]; exact if_neg h

/-- R26, R27, R149: the ring's last record ends the draining, and the last record of a RETIRING bank its
retirement. -/
theorem emptied_eq (rest : List FrameRecord) (s : State) : emptied rest s =
    { s with
      ring := rest
      tables := { s.tables with other := otherAfter rest s }
      stream := { s.stream with state :=
        if s.stream.state = .draining ∧ rest = [] then .idle else s.stream.state }
      events := if s.stream.state = .draining ∧ rest = []
        then takeRaising ⟨.streamState, none, s.film.tag, s.film.offset, some 0⟩ s.events else s.events } := by
  rw [emptied, retirementEndStep_setRing]
  by_cases h : s.stream.state = .draining ∧ rest = []
  · rw [if_pos h, if_pos h]; exact if_pos h
  · rw [if_neg h, if_neg h]; exact if_neg h

/-- R31: the state in which the output values of a release are taken. -/
def adapted (r : FrameRecord) (rest : List FrameRecord) (s : State) : State :=
  let mask := setting (emptied rest s) r.bank (.stream .channelMask)
  let u := note r.bank (.stream .channelMask) (emptied rest s)
  let v := releaseMarks r mask u
  adaptRecord r mask (Quad.build (checkedValue u r)) (Quad.build fun ch => holdSet v r.bank ch .perf)
    (Quad.build fun ch => holdSet v r.bank ch .mains) (noteHolds r mask v)

theorem kept_adapted (r : FrameRecord) (rest : List FrameRecord) (s : State) :
    Kept (emptied rest s) (adapted r rest s) :=
  ((((kept_note ..).trans (kept_releaseMarks ..)).trans (kept_noteHolds ..)).trans (kept_adaptRecord ..))

/-! ### What departs (R108, R123) -/

/-- R123: the values of a release. -/
def released (r : FrameRecord) (rest : List FrameRecord) (s : State) : Quad Sample :=
  Quad.build (outputValue (adapted r rest s) r (setting (emptied rest s) r.bank (.stream .channelMask))
    (Quad.build (checkedValue (note r.bank (.stream .channelMask) (emptied rest s)) r)))

/-- R108, R123: a value departs by the settings of the record's bank, the hiss state and the last outputs. -/
theorem outputValue_eq {s u v : State} (hs : ∀ b f, setting v b f = setting s b f) (hh : v.hiss = s.hiss)
    (hl : u.lastOut = s.lastOut) (r : FrameRecord) (ch : Channel) :
    outputValue v r (setting s r.bank (.stream .channelMask)) (Quad.build (checkedValue u r)) ch =
      departingValue s r ch := by
  have settings : hissSettings v r.bank ch = hissSettings s r.bank ch := by simp only [hissSettings, hs]
  have steps : makesHissStep v r true (failsRelease r ch) ch =
      (r.processed && cellOk (r.entries.get ch).cell && setting s r.bank (.chan ch .hissEnable) != 0) := by
    simp [makesHissStep, isSet, hs, failsRelease]
  unfold outputValue departingValue
  rw [settings, steps, hh, Quad.get_build]
  simp only [checkedValue, failsRelease, hl]
  cases inMask (setting s r.bank (.stream .channelMask)) ch <;> cases cellOk (r.entries.get ch).cell <;> simp

/-- R123: the departing values rest on the tables, the last outputs and the hiss state. -/
theorem departingValue_congr {s u : State} (ht : u.tables = s.tables) (hl : u.lastOut = s.lastOut)
    (hh : u.hiss = s.hiss) (r : FrameRecord) : departingValue u r = departingValue s r := by
  funext ch
  have settings (b : BankId) (f : FieldRef) : setting u b f = setting s b f := by
    simp only [setting, storedField, ht]
  simp only [departingValue, hissSettings, settings, hl, hh]

theorem setting_emptied (rest : List FrameRecord) (s : State) (b : BankId) (f : FieldRef) :
    setting (emptied rest s) b f = setting s b f := by
  rw [emptied_eq]
  cases b <;> rfl

theorem released_get (r : FrameRecord) (rest : List FrameRecord) (s : State) (ch : Channel) :
    (released r rest s).get ch = departingValue s r ch := by
  have kept := kept_adapted r rest s
  have noted := kept_note (emptied rest s) r.bank (.stream .channelMask)
  rw [released, Quad.get_build, setting_emptied]
  apply outputValue_eq
  · exact fun b f => (kept.setting b f).trans (setting_emptied rest s b f)
  · rw [kept.hiss, emptied_eq]
  · rw [noted.lastOut, emptied_eq]

/-- R31: what a release makes of a state, but for the hiss state and what the stages work on. -/
def afterRelease (r : FrameRecord) (rest : List FrameRecord) (hiss : Quad Hiss) (s : State) : State :=
  (((emptied rest s).setHiss hiss).setOut
    { s.out with slot := ⟨.sample, r.marker, Quad.build (departingValue s r)⟩ }).setLastOut
    (Quad.build (departingValue s r))

section

variable (r : FrameRecord) (rest : List FrameRecord) (hiss : Quad Hiss) (s : State)

@[simp] theorem afterRelease_power : (afterRelease r rest hiss s).power = s.power := by
  simp [afterRelease, emptied_eq]
@[simp] theorem afterRelease_link : (afterRelease r rest hiss s).link = s.link := by
  simp [afterRelease, emptied_eq]
@[simp] theorem afterRelease_film : (afterRelease r rest hiss s).film = s.film := by
  simp [afterRelease, emptied_eq]
@[simp] theorem afterRelease_tracker : (afterRelease r rest hiss s).tracker = s.tracker := by
  simp [afterRelease, emptied_eq]
@[simp] theorem afterRelease_cmd : (afterRelease r rest hiss s).cmd = s.cmd := by
  simp [afterRelease, emptied_eq]
@[simp] theorem afterRelease_tx : (afterRelease r rest hiss s).tx = s.tx := by
  simp [afterRelease, emptied_eq]
@[simp] theorem afterRelease_store : (afterRelease r rest hiss s).store = s.store := by
  simp [afterRelease, emptied_eq]
@[simp] theorem afterRelease_counters : (afterRelease r rest hiss s).counters = s.counters := by
  simp [afterRelease, emptied_eq]
@[simp] theorem afterRelease_upset : (afterRelease r rest hiss s).upset = s.upset := by
  simp [afterRelease, emptied_eq]
@[simp] theorem afterRelease_bank0 : (afterRelease r rest hiss s).tables.bank0 = s.tables.bank0 := by
  simp [afterRelease, emptied_eq]
@[simp] theorem afterRelease_bank1 : (afterRelease r rest hiss s).tables.bank1 = s.tables.bank1 := by
  simp [afterRelease, emptied_eq]
@[simp] theorem afterRelease_active : (afterRelease r rest hiss s).tables.active = s.tables.active := by
  simp [afterRelease, emptied_eq]
@[simp] theorem afterRelease_pendingX : (afterRelease r rest hiss s).tables.pendingX = s.tables.pendingX := by
  simp [afterRelease, emptied_eq]
@[simp] theorem afterRelease_ring : (afterRelease r rest hiss s).ring = rest := by
  simp [afterRelease, emptied_eq]
@[simp] theorem afterRelease_other : (afterRelease r rest hiss s).tables.other = otherAfter rest s := by
  simp [afterRelease, emptied_eq]
@[simp] theorem afterRelease_stream : (afterRelease r rest hiss s).stream = { s.stream with state :=
    if s.stream.state = .draining ∧ rest = [] then .idle else s.stream.state } := by
  simp [afterRelease, emptied_eq]
@[simp] theorem afterRelease_events : (afterRelease r rest hiss s).events =
    if s.stream.state = .draining ∧ rest = []
      then takeRaising ⟨.streamState, none, s.film.tag, s.film.offset, some 0⟩ s.events else s.events := by
  simp [afterRelease, emptied_eq]
@[simp] theorem afterRelease_out : (afterRelease r rest hiss s).out =
    { s.out with slot := ⟨.sample, r.marker, Quad.build (departingValue s r)⟩ } := rfl
@[simp] theorem afterRelease_lastOut : (afterRelease r rest hiss s).lastOut = Quad.build (departingValue s r) := rfl

end

theorem Kept.setHiss {s t : State} (h : Kept s t) (x : Quad Hiss) : Kept (s.setHiss x) (t.setHiss x) :=
  ⟨congrArg (·.setHiss x) h.stands, h.raised⟩

theorem Kept.setOut {s t : State} (h : Kept s t) (x : Output) : Kept (s.setOut x) (t.setOut x) :=
  ⟨congrArg (·.setOut x) h.stands, h.raised⟩

theorem Kept.setLastOut {s t : State} (h : Kept s t) (x : Quad Sample) : Kept (s.setLastOut x) (t.setLastOut x) :=
  ⟨congrArg (·.setLastOut x) h.stands, h.raised⟩

/-- R31: a release leaves what its stages leave of `afterRelease`. -/
theorem kept_release {s : State} {r : FrameRecord} {rest : List FrameRecord} (h : s.ring = r :: rest) :
    ∃ hiss, Kept (afterRelease r rest hiss s) (release s) := by
  let mask := setting (emptied rest s) r.bank (.stream .channelMask)
  let checked := Quad.build (checkedValue (note r.bank (.stream .channelMask) (emptied rest s)) r)
  let u := eachChannel (fun ch t =>
    noteHiss r (inMask mask ch) (failsRelease r ch) (checked.get ch).toInt ch t) (adapted r rest s)
  let hiss := Quad.build (hissNext (adapted r rest s) r mask checked)
  have values : released r rest s = Quad.build (departingValue s r) :=
    Quad.ext_get fun ch => by rw [released_get, Quad.get_build]
  have kept : Kept (emptied rest s) u :=
    (kept_adapted r rest s).trans (kept_eachChannel (fun _ _ => kept_noteHiss ..) _)
  have out : u.out = s.out := by rw [kept.out, emptied_eq]
  have result : release s = ((u.setHiss hiss).setOut
      { u.out with slot := ⟨.sample, r.marker, released r rest s⟩ }).setLastOut (released r rest s) := by
    rw [release, h]; rfl
  refine ⟨hiss, ?_⟩
  rw [result, values, out]
  exact ((kept.setHiss hiss).setOut _).setLastOut _

end Sys2Proof.SampleLink
end

section
/-! Arrivals that release a record: DRAINING (R16, R25, R26). -/

namespace Sys2Proof.SampleLink

open Sys2Proof Sys2Proof.Machine Sys2Proof.Safety

/-! ### The steps of a slot without a control word -/

/-- A slot that is BAD, or that brings a quiet marker and no control word. -/
def QuietSlot (f : Option LinkFrame) : Prop :=
  quietMarker (deliveredMarker f) ∧ ∀ g, f = some g → g.kind = .none

/-- R2, R3: the counts of a slot at its classification and at the delivery of its marker. -/
def slotCounted (f : Option LinkFrame) (s : State) : State :=
  s.setCounters { s.counters with
    badFrame := if f.isNone then satInc s.counters.badFrame else s.counters.badFrame
    markerError := if markerError f then satInc s.counters.markerError else s.counters.markerError }

/-- R2, R3: classification and the delivery of a quiet marker. -/
theorem deliver_classify {f : Option LinkFrame} (h : quietMarker (deliveredMarker f)) (s : State) :
    deliver f (classify f s) = slotCounted f s := by
  rw [deliver_quiet h]
  cases f <;> rfl

/-- R157: a slot without a control word leaves everything but the command unit. -/
theorem takeControl_quiet {f : Option LinkFrame} (h : ∀ g, f = some g → g.kind = .none) (s : State) :
    ∃ c, takeControl f s = s.setCmd c := by
  cases f with
  | none => exact ⟨_, takeBad_eq s⟩
  | some g => exact ⟨s.cmd, takeControl_none (h g rfl) s⟩

/-- R5: the steps of a quiet slot before its frame departs. -/
theorem servedArrival_quietSlot {f : Option LinkFrame} (h : QuietSlot f) (s : State) :
    ∃ c, servedArrival f s = egressStep (updateLink (classOf f) s.stream.state
      ((streamStep (deliveredMarker f) (classOf f) (slotCounted f s)).setCmd c)) := by
  obtain ⟨c, hc⟩ := takeControl_quiet h.2 (streamStep (deliveredMarker f) (classOf f) (slotCounted f s))
  refine ⟨c, ?_⟩
  rw [← hc, ← deliver_classify h.1]
  rfl

/-! ### The departing frame (R13, R164) -/

/-- R164: choosing a message changes the transmission alone. -/
theorem chooseMessage_frame (s : State) : ∃ t, chooseMessage s = s.setTx t := by
  unfold chooseMessage
  split
  · exact ⟨s.tx, rfl⟩
  · split
    · exact ⟨_, rfl⟩
    · split
      · exact ⟨_, rfl⟩
      · exact ⟨s.tx, rfl⟩

theorem countSent_frame (s : State) : ∃ t, countSent s = s.setTx t := by
  unfold countSent
  split
  · exact ⟨s.tx, rfl⟩
  · exact ⟨_, rfl⟩

/-- R165: the end of a message changes the transmission, the reply buffer and the event queue alone. -/
theorem messageSentStep_frame (s : State) :
    ∃ t c e, messageSentStep s = ((s.setTx t).setCmd c).setEvents e := by
  unfold messageSentStep
  split
  · exact ⟨s.tx, s.cmd, s.events, rfl⟩
  · next t _ =>
    split
    · unfold removeSent
      split
      · exact ⟨none, _, s.events, rfl⟩
      · exact ⟨none, s.cmd, _, rfl⟩
    · exact ⟨s.tx, s.cmd, s.events, rfl⟩

/-- R13, R164: a frame departs with the slot's outcome and some control word; besides it the transmission, the
reply buffer and the event queue change. -/
theorem egressStep_frame (s : State) : ∃ w t c e, egressStep s =
    (((s.setTx t).setCmd c).setEvents e).setOut ⟨s.out.slot, some (formFrame (departingFrame s.out.slot w))⟩ := by
  obtain ⟨t, ht⟩ := chooseMessage_frame s
  obtain ⟨t', ht'⟩ := countSent_frame (depart (nextWord (s.setTx t)) (s.setTx t))
  obtain ⟨t'', c, e, h⟩ := messageSentStep_frame ((depart (nextWord (s.setTx t)) (s.setTx t)).setTx t')
  refine ⟨nextWord (s.setTx t), t'', c, e, ?_⟩
  simp only [egressStep, ht, ht', h]
  rfl

/-! ### A slot in DRAINING (R16, R25) -/

/-- R25: the samples of a slot in DRAINING are discarded and counted. -/
def slotDrained (f : Option LinkFrame) (s : State) : State :=
  (s.setCounters { s.counters with
    drainedInput := if f.any (fun g => g.ftype == .sample) then satInc s.counters.drainedInput
      else s.counters.drainedInput }).setOut { s.out with slot := idleSlot }

/-- The counts of a slot change nothing of what departs. -/
theorem departingValue_slotDrained (f : Option LinkFrame) (s : State) (r : FrameRecord) :
    departingValue (slotDrained f (slotCounted f s)) r = departingValue s r :=
  departingValue_congr (by simp [slotDrained, slotCounted]) (by simp [slotDrained, slotCounted])
    (by simp [slotDrained, slotCounted]) r

/-- R16, R25: a slot in DRAINING releases a record. -/
theorem streamStep_draining {s : State} (m : Marker) (f : Option LinkFrame) (h : s.stream.state = .draining) :
    streamStep m (classOf f) s = release (slotDrained f s) := by
  simp only [streamStep, State.setOut_stream, h, arriveDraining]
  rcases f with _ | ⟨ft, code, x, k, w⟩
  · rfl
  · cases ft <;> rfl

/-- R7: outside a reel the loss of the link ends nothing. -/
theorem linkLostStep_noReel {s : State} (h : inReel s.stream.state = false) (ha : s.stream.armed = false) :
    ∃ l n e, linkLostStep s = ((s.setLink l).setCounters { s.counters with linkLoss := n }).setEvents e ∧
      l.lastAccepted = s.link.lastAccepted := by
  by_cases hl : s.link.cond = .good ∧ s.link.badCount = 256
  · refine ⟨{ s.link with cond := .lost }, satInc s.counters.linkLoss,
      takeRaising ⟨.linkLost, none, s.film.tag, s.film.offset, none⟩ s.events, ?_, rfl⟩
    rw [linkLostStep_eq hl.1 hl.2, if_neg (by simp [h]), linkGone, ← ha]
    rfl
  · exact ⟨s.link, s.counters.linkLoss, s.events, linkLostStep_of_not hl, rfl⟩

/-- R6 to R8: the link condition after a slot in DRAINING. -/
theorem updateLink_draining {c : SlotClass} {s : State} (h : inReel s.stream.state = false)
    (ha : s.stream.armed = false) :
    ∃ l n e, updateLink c .draining s = ((s.setLink l).setCounters { s.counters with linkLoss := n }).setEvents e ∧
      l.lastAccepted = s.link.lastAccepted := by
  have noDropout : isDropout c .draining = false := by simp [isDropout, inReel]
  by_cases hc : countsBad c .draining = true
  · rw [updateLink, if_pos hc, noDropout]
    obtain ⟨l, n, e, hs, hl⟩ := linkLostStep_noReel
      (s := s.setLink { s.link with badCount := min Config.badLimit (s.link.badCount + 1) }) h ha
    exact ⟨l, n, e, hs, hl⟩
  · rw [Bool.not_eq_true] at hc
    obtain ⟨e, h⟩ := updateLink_accepts (s := s) hc
    exact ⟨⟨.good, 0, s.link.lastAccepted⟩, s.counters.linkLoss, e, by rw [h]; rfl, rfl⟩

/-- R26: the row DRAIN_END releases the ring's one record. -/
theorem exec_drainEnd {s : State} {r : FrameRecord} (hv : s.serving = true) (hd : s.stream.state = .draining)
    (hr : s.ring = [r]) : exec .drainEnd s = .next (release s) := by
  simp [exec, execDrainEnd, actWhen, hv, drainEndStep, hd, hr]

/-- R2, R3: the slots of the statement are quiet. -/
theorem quietSlot_of {f : Option LinkFrame} (h : f = none ∨ ∃ g, f = some g ∧ g.kind = .none ∧
    (g.ftype = .sample → g.markerCode = 0 ∨ g.markerCode = 1)) : QuietSlot f := by
  rcases h with rfl | ⟨g, rfl, hk, hm⟩
  · exact ⟨.inl rfl, fun g hg => by cases hg⟩
  · exact ⟨deliveredMarker_quiet fun hs => (hm hs).imp_right .inl, fun g' hg => by cases hg; exact hk⟩

/-- R25, R149: with no record in the ring none is of the retiring bank. -/
theorem otherAfter_nil (s : State) :
    otherAfter [] s = if s.tables.other = .retiring then .standby else s.tables.other := by
  simp [otherAfter]

/-- Settles O43: both parts are `kept_release`, in the arrival behind the count of its slot and before its link
condition. -/
theorem drainingReleasesTheRing : Obligations.DrainingReleasesTheRing := by
  constructor
  · intro s r hv hd hr
    obtain ⟨hiss, kept⟩ := kept_release hr
    have values : (release s).lastOut = Quad.build (departingValue s r) := by simp [kept.lastOut]
    refine ⟨release s, exec_drainEnd hv hd hr, ?_, ?_, ?_, fun ch => ?_, ?_, ?_, ?_⟩
    · simpa using kept.ring
    · simp [kept.stream, hd]
    · simp [kept.out, values]
    · rw [values, Quad.get_build]
    · rw [kept.other, afterRelease_other, otherAfter_nil]
    · simp [kept.link, kept.film, kept.tracker, kept.cmd, kept.tx, kept.store]
    · simpa [hd] using kept.raised
  · intro s bits r rest hv hk hd hr _ hf
    obtain ⟨_, _, hArmed, _, _⟩ := hk
    have ha : s.stream.armed = false := by
      by_contra h
      have idle := hArmed (by simpa using h)
      rw [hd] at idle
      cases idle
    obtain ⟨cu, served⟩ := servedArrival_quietSlot (quietSlot_of hf) s
    set f := parseFrame bits
    obtain ⟨hiss, kept⟩ := kept_release (s := slotDrained f (slotCounted f s)) hr
    rw [exec_arrival hv, served, hd, streamStep_draining (s := slotCounted f s) _ f hd]
    set v := release (slotDrained f (slotCounted f s))
    have stream : v.stream = { s.stream with state := if rest = [] then .idle else .draining } :=
      kept.stream.trans (by simp [slotDrained, slotCounted, hd])
    have values : v.lastOut = Quad.build (departingValue s r) := by
      rw [kept.lastOut, afterRelease_lastOut, departingValue_slotDrained]
    have slot : v.out.slot = ⟨.sample, r.marker, v.lastOut⟩ := by
      rw [kept.out, kept.lastOut]; rfl
    have noReel : inReel v.stream.state = false := by rw [stream]; dsimp only; split <;> rfl
    have armed : v.stream.armed = false := by rw [stream]; exact ha
    obtain ⟨l, n, e, linked, hl⟩ := updateLink_draining (c := classOf f) (s := v.setCmd cu) noReel armed
    obtain ⟨w, t, c, e', egress⟩ := egressStep_frame
      ((((v.setCmd cu).setLink l).setCounters { v.counters with linkLoss := n }).setEvents e)
    refine ⟨_, w, congrArg Host.Outcome.next ((congrArg egressStep linked).trans egress), ?_, ?_, ?_, ?_, ?_,
      fun ch => ?_, ?_, ?_⟩
    · simpa using kept.ring
    · simpa using stream
    · simpa [slotDrained, slotCounted] using kept.drainedInput
    · simpa [slotDrained, slotCounted] using kept.badFrame
    · simp [slot, departingFrame]
    · simp [values]
    · simp [kept.film, kept.tracker, kept.store, slotDrained, slotCounted]
    · simpa [hl, slotDrained, slotCounted] using congrArg (·.lastAccepted) kept.link

end Sys2Proof.SampleLink
end

section
/-! Admissions (R30): what the stages of an admission leave, and the record that is placed. -/

namespace Sys2Proof.SampleLink

open Sys2Proof Sys2Proof.Machine Sys2Proof.Safety

/-! ### The tracker and Pm (R44 to R54) -/

/-- An operation that leaves what the stages leave, but for the tracker. -/
def KeptButTracker (s t : State) : Prop := Kept (s.setTracker t.tracker) t

theorem Kept.setTracker {s t : State} (h : Kept s t) (x : Tracker) : Kept (s.setTracker x) (t.setTracker x) :=
  ⟨congrArg (·.setTracker x) h.stands, h.raised⟩

namespace KeptButTracker

variable {s t u : State}

theorem of_kept (h : Kept s t) : KeptButTracker s t := by
  have tracker : s.setTracker t.tracker = s := by rw [h.tracker]; rfl
  rwa [KeptButTracker, tracker]

theorem trans (a : KeptButTracker s t) (b : KeptButTracker t u) : KeptButTracker s u :=
  (Kept.setTracker a u.tracker).trans b

theorem setTracker (s : State) (x : Tracker) : KeptButTracker s (s.setTracker x) := Kept.refl _

theorem ite {p : Prop} [Decidable p] (a : KeptButTracker s t) (b : KeptButTracker s u) :
    KeptButTracker s (if p then t else u) := by
  split <;> assumption

end KeptButTracker

theorem kept_noteMains (s : State) : Kept s (noteMains s) :=
  .ite ((kept_noteActive ..).trans (kept_noteActive ..)) ((kept_noteActive ..).trans (kept_noteActive ..))

/-- R54: Pm and the MAINS phases. -/
theorem kept_recomputeMains (s : State) : Kept s (recomputeMains s) := (kept_noteMains s).trans (kept_setCanc _ _)

theorem keptButTracker_acquirePerf (s : State) : KeptButTracker s (acquirePerf s) := by
  refine .ite (.setTracker s _) (.ite ?_ (.setTracker s _))
  exact (KeptButTracker.setTracker s _).trans (.of_kept ((kept_raise ..).trans (kept_recomputeMains _)))

theorem keptButTracker_lockedPerf (s : State) : KeptButTracker s (lockedPerf s) := by
  refine .ite ?_ (.ite (.of_kept (kept_countOutlier s)) (.of_kept (.refl s)))
  exact (KeptButTracker.setTracker s _).trans (.of_kept (.ite (.refl _) (kept_recomputeMains _)))

theorem keptButTracker_takePerf (s : State) : KeptButTracker s (takePerf s) := by
  unfold takePerf
  split
  · exact keptButTracker_acquirePerf s
  · exact keptButTracker_lockedPerf s
  · exact keptButTracker_lockedPerf s
  · exact .setTracker s _

theorem keptButTracker_perfMissStep (s : State) : KeptButTracker s (perfMissStep s) := by
  refine .ite ?_ (.of_kept (.refl s))
  have missed (x : Tracker) : KeptButTracker s ((noteActive (.stream .missLimit) s).setTracker x) :=
    (KeptButTracker.of_kept (kept_noteActive s _)).trans (.setTracker _ x)
  exact (missed _).trans (.of_kept (.ite (kept_raise ..) (.refl _)))

/-- R44: what the tracker does with a record. -/
theorem keptButTracker_takeRecord (m : Marker) (s : State) : KeptButTracker s (takeRecord m s) :=
  (KeptButTracker.setTracker s _).trans (.ite (keptButTracker_takePerf _) (keptButTracker_perfMissStep _))

/-! ### The subtraction (R59 to R61) -/

theorem kept_subtractMarks (ch : Channel) (x : Sample) (pb mb : BitVec 6) (s : State) :
    Kept s (subtractMarks ch x pb mb s) := by
  unfold subtractMarks
  refine Kept.trans ?_ (.ite (kept_countClip _) (.refl _))
  refine Kept.trans ?_ (.ite (kept_readBin ..) (.refl _))
  exact ((kept_note ..).trans (kept_note ..)).trans (.ite (kept_readBin ..) (.refl _))

theorem kept_subtractAll (processed accepted : Bool) (x : Quad Sample) (s : State) :
    Kept s (subtractAll processed accepted x s) :=
  kept_eachChannel (fun _ _ => .ite (kept_subtractMarks ..) (.refl _)) s

theorem kept_advancePhases (accepted : Bool) (s : State) : Kept s (advancePhases accepted s) := kept_setCanc s _

/-! ### The detector (R74 to R91) -/

theorem kept_openContext (ch : Channel) (p : Serial) (causes : Causes) (peak : Option Nat) (s : State) :
    Kept s (openContext ch p causes peak s) := by
  unfold openContext
  have opened (c : Context) (b : BankId) (f : FieldRef) :
      Kept s (note b f (withContext ch (some c) (noteActive (.chan ch .closeRun) s))) :=
    ((kept_noteActive s _).trans (kept_setDetector ..)).trans (kept_note ..)
  exact (opened ..).trans (.ite ((closing_appendEntry _ _).toKept.trans (kept_setDetector ..)) (.refl _))

theorem kept_settleFlagged (ch : Channel) (p : Serial) (causes : Causes) (peak : Option Nat) (s : State) :
    Kept s (settleFlagged ch p causes peak s) := by
  unfold settleFlagged
  split
  · exact kept_openContext ..
  · exact (kept_setDetector ..).trans (.ite (kept_countLong _) (.refl _))

theorem kept_settleClean (ch : Channel) (p : Serial) (s : State) : Kept s (settleClean ch p s) := by
  unfold settleClean
  split
  · exact .refl s
  · exact .ite ((kept_setDetector ..).trans (closing_normalCloseStep _ _).toKept) (.refl s)

theorem kept_evaluateCentre (ch : Channel) (n : Serial) (vn v1 v2 : Sample) (s : State) :
    Kept s (evaluateCentre ch n vn v1 v2 s) := by
  unfold evaluateCentre
  refine ((kept_noteActive ..).trans (kept_noteActive ..)).trans (.ite ?_ (.ite (.refl _) ?_))
  · exact ((kept_ringUpdate _ leavesAdmitted_markFlagged ..).trans (kept_countDetected _)).trans
      (kept_settleFlagged ..)
  · exact (kept_setDetector ..).trans (kept_settleClean ..)

theorem kept_applyForced (ch : Channel) (n : Serial) (causes : Causes) (s : State) :
    Kept s (applyForced ch n causes s) :=
  .ite ((kept_ringUpdate _ leavesAdmitted_markFlagged ..).trans (kept_settleFlagged ..)) (.refl s)

theorem kept_failedRead (ch : Channel) (n : Serial) (s : State) : Kept s (failedRead ch n s) :=
  (kept_ringUpdate _ leavesAdmitted_markMemory ..).trans (kept_raise ..)

theorem kept_watchPosition (ch : Channel) (r : FrameRecord) (s : State) : Kept s (watchPosition ch r s) := by
  unfold watchPosition
  refine Kept.trans ?_ ((kept_setDetector ..).trans (kept_setDetector ..))
  refine Kept.trans ?_ (kept_applyForced ..)
  have read : Kept s (if cellOk (r.entries.get ch).cell then s else failedRead ch r.serial s) :=
    .ite (.refl s) (kept_failedRead ..)
  refine read.trans ?_
  generalize (if cellOk (r.entries.get ch).cell then s else failedRead ch r.serial s) = t
  split
  · exact kept_evaluateCentre ..
  · exact .refl _

theorem kept_skipPosition (ch : Channel) (r : FrameRecord) (s : State) : Kept s (skipPosition ch r s) :=
  ((closing_closeContext ..).toKept.trans (kept_setDetector ..)).trans (kept_setDetector ..)

theorem kept_noteWatched (r : FrameRecord) (ch : Channel) (s : State) : Kept s (noteWatched r ch s) :=
  .ite ((kept_noteActive ..).trans (.ite (kept_noteActive ..) (.refl _))) (.refl s)

/-- R74: the detector's work on one channel. -/
theorem kept_detectChannel (r : FrameRecord) (ch : Channel) (s : State) : Kept s (detectChannel r ch s) :=
  (kept_noteWatched ..).trans (.ite (kept_watchPosition ..) (kept_skipPosition ..))

/-! ### The record that is placed (R28, R30) -/

section

variable (m : Marker) (stamp : BitVec 16) (samples : Option (Quad Sample)) (s : State)

/-- R30 step 1: the part before the tracker takes the record. -/
def beforeRecord : State :=
  useGuard ((s.setLink { s.link with lastAccepted := samples.getD s.link.lastAccepted }).setWork
    { s.work with admitting := true })

/-- R30 step 2: the part in which the record's entries are formed. -/
def recordTaken : State := noteActive (.stream .channelMask) (takeRecord m (beforeRecord samples s))

/-- R30 step 2: the part before the record is placed. -/
def subtracted : State :=
  let accepted := markerAccepted m (beforeRecord samples s)
  advancePhases accepted (subtractAll (s.fault.mode == .normal) accepted (samples.getD s.link.lastAccepted)
    (recordTaken m samples s))

/-- R28: the entries of the admitted record. -/
def admittedEntries : Quad Entry :=
  Quad.build (admittedEntry (recordTaken m samples s) (s.fault.mode == .normal) samples.isNone (s.film.guard != 0)
    (markerAccepted m (beforeRecord samples s)) (samples.getD s.link.lastAccepted))

/-- R28, R75: the admitted record as the detector finds it in the ring. -/
def admittedRecord : FrameRecord :=
  let u := subtracted m samples s
  upsetRecord u.upset ⟨u.stream.nextSerial, m, u.film.tag, stamp, s.tables.active, s.fault.mode == .normal,
    admittedEntries m samples s⟩

/-- R30 step 3: the part with the record placed. -/
def recordPlaced : State :=
  (placeInRing (admittedRecord m stamp samples s) (subtracted m samples s)).setUpset (Quad.all false)

theorem admitRecord_eq : admitRecord m stamp samples s =
    endAdmission (eachChannel (detectChannel (admittedRecord m stamp samples s))
      (recordPlaced m stamp samples s)) := rfl

/-- R30 step 4: the detector's work leaves what the stages leave. -/
theorem kept_admitRecord : Kept (recordPlaced m stamp samples s) (admitRecord m stamp samples s) :=
  (kept_eachChannel (kept_detectChannel _) _).trans (closing_endAdmission _).toKept

/-- R30 steps 1 and 2: before the record is placed only the last accepted samples, the guard and the tracker have
changed of what stands. -/
theorem kept_subtracted : KeptButTracker (beforeRecord samples s) (subtracted m samples s) :=
  (keptButTracker_takeRecord m _).trans (.of_kept
    (((kept_noteActive ..).trans (kept_subtractAll ..)).trans (kept_advancePhases ..)))

theorem kept_recordTaken : KeptButTracker (beforeRecord samples s) (recordTaken m samples s) :=
  (keptButTracker_takeRecord m _).trans (.of_kept (kept_noteActive ..))

/-- R42: what the start of an admission changes. -/
theorem beforeRecord_eq : beforeRecord samples s =
    ((s.setLink { s.link with lastAccepted := samples.getD s.link.lastAccepted }).setWork
      { s.work with admitting := true }).setFilm
        { s.film with guard := s.film.guard - (if s.film.guard = 0 then 0 else 1) } := by
  by_cases h : s.film.guard = 0
  · rw [if_pos h, sub_zero]; exact if_pos h
  · rw [if_neg h]; exact if_neg h

/-- R30: what an admission makes of a state, but for what the stages work on: the last accepted samples, the guard,
the tracker and the record. -/
def placed (r : FrameRecord) (x : Tracker) : State :=
  ((placeInRing r (beforeRecord samples s)).setUpset (Quad.all false)).setTracker x

end

/-- A record placed in a part that stands as another. -/
theorem Kept.placeInRing {s t : State} (h : Kept s t) (r : FrameRecord) :
    Kept (placeInRing r s) (placeInRing r t) := by
  have place (u : State) : standing (Machine.placeInRing r u) =
      (((standing u).setRing ((standing u).ring ++ [bareRecord r])).setStream
        { u.stream with nextSerial := u.stream.nextSerial + 1 }) := by
    simp only [standing, Machine.placeInRing, List.map_append, List.map_cons, List.map_nil, State.setRing,
      State.setStream]
  refine ⟨?_, h.raised⟩
  rw [place, place, h.stands, h.stream]

theorem Kept.setUpset {s t : State} (h : Kept s t) (x : Quad Bool) : Kept (s.setUpset x) (t.setUpset x) :=
  ⟨congrArg (·.setUpset x) h.stands, h.raised⟩

section

variable (m : Marker) (stamp : BitVec 16) (samples : Option (Quad Sample)) (s : State)

/-- R30: an admission leaves what its stages leave of `placed`. -/
theorem kept_admission : ∃ x, Kept (placed samples s (admittedRecord m stamp samples s) x)
    (admitRecord m stamp samples s) :=
  ⟨_, ((kept_subtracted m samples s).placeInRing _ |>.setUpset _).trans (kept_admitRecord m stamp samples s)⟩

/-- R28, R32: what names the admitted record. -/
theorem admittedRecord_names : let r := admittedRecord m stamp samples s
    (r.serial, r.marker, r.tag, r.offset, r.bank, r.processed) =
      (s.stream.nextSerial, m, s.film.tag, stamp, s.tables.active, s.fault.mode == .normal) := by
  have serial : (subtracted m samples s).stream = s.stream := by
    rw [(kept_subtracted m samples s).stream, beforeRecord_eq]; rfl
  have tag : (subtracted m samples s).film.tag = s.film.tag := by
    rw [(kept_subtracted m samples s).film, beforeRecord_eq]; rfl
  simp only [admittedRecord, upsetRecord, serial, tag]

variable (r : FrameRecord) (x : Tracker)

@[simp] theorem placed_power : (placed samples s r x).power = s.power := by
  simp [placed, placeInRing, beforeRecord_eq]
@[simp] theorem placed_store : (placed samples s r x).store = s.store := by
  simp [placed, placeInRing, beforeRecord_eq]
@[simp] theorem placed_out : (placed samples s r x).out = s.out := by
  simp [placed, placeInRing, beforeRecord_eq]
@[simp] theorem placed_lastOut : (placed samples s r x).lastOut = s.lastOut := by
  simp [placed, placeInRing, beforeRecord_eq]
@[simp] theorem placed_counters : (placed samples s r x).counters = s.counters := by
  simp [placed, placeInRing, beforeRecord_eq]
@[simp] theorem placed_bank0 : (placed samples s r x).tables.bank0 = s.tables.bank0 := by
  simp [placed, placeInRing, beforeRecord_eq]
@[simp] theorem placed_bank1 : (placed samples s r x).tables.bank1 = s.tables.bank1 := by
  simp [placed, placeInRing, beforeRecord_eq]
@[simp] theorem placed_active : (placed samples s r x).tables.active = s.tables.active := by
  simp [placed, placeInRing, beforeRecord_eq]
@[simp] theorem placed_pendingX : (placed samples s r x).tables.pendingX = s.tables.pendingX := by
  simp [placed, placeInRing, beforeRecord_eq]
@[simp] theorem placed_link : (placed samples s r x).link =
    { s.link with lastAccepted := samples.getD s.link.lastAccepted } := by
  simp [placed, placeInRing, beforeRecord_eq]
@[simp] theorem placed_film : (placed samples s r x).film =
    { s.film with guard := s.film.guard - (if s.film.guard = 0 then 0 else 1) } := by
  simp [placed, placeInRing, beforeRecord_eq]
@[simp] theorem placed_stream : (placed samples s r x).stream =
    { s.stream with nextSerial := s.stream.nextSerial + 1 } := by
  simp [placed, placeInRing, beforeRecord_eq]
@[simp] theorem placed_ring : (placed samples s r x).ring = s.ring ++ [r] := by
  simp [placed, placeInRing, beforeRecord_eq]

end

/-- R29, R30: after an admission the admitted record stands at the newest end of the ring. -/
theorem exists_newest {ring old : List FrameRecord} {r : FrameRecord}
    (h : ring.map bareRecord = (old ++ [r]).map bareRecord) :
    ∃ front new, ring = front ++ [new] ∧ front.map bareRecord = old.map bareRecord ∧
      bareRecord new = bareRecord r := by
  rw [List.map_append] at h
  obtain ⟨front, newest, rfl, hf, hn⟩ := List.map_eq_append_iff.1 h
  obtain ⟨new, none, rfl, hb, hnil⟩ := List.map_eq_cons_iff.1 hn
  rw [List.map_eq_nil_iff.1 hnil]
  exact ⟨front, new, rfl, hf, hb⟩

/-- R22, R23: after an admission with a quiet marker only the fill of the ring is looked at. -/
theorem admitSlot_quiet {m : Marker} (hm : quietMarker m) (stamp : BitVec 16) (samples : Option (Quad Sample))
    (s : State) : admitSlot m stamp samples s = checkRunning (admitRecord m stamp samples s) :=
  if_neg (by rintro rfl; cases hm <;> contradiction)

end Sys2Proof.SampleLink
end

section
/-! A SAMPLE slot in RUNNING (R9, R12, R16, R22): a release, and then an admission. -/

namespace Sys2Proof.SampleLink

open Sys2Proof Sys2Proof.Machine Sys2Proof.Safety

/-- R22: the test of the fill, in the words of the statement. -/
theorem checkRunning_eq (s : State) : checkRunning s =
    if s.stream.state = .priming ∧ s.ring.length = s.stream.lEff then
      withEvent .streamState none (some 2) { s with stream := { s.stream with state := .running } }
    else s := rfl

/-- R22: outside PRIMING no stream turns RUNNING. -/
theorem checkRunning_of_ne {s : State} (h : s.stream.state ≠ .priming) : checkRunning s = s :=
  if_neg fun hc => h hc.1

/-- R29: a full ring in RUNNING holds a record. -/
theorem ring_of_running {s : State} (hk : StreamKept s) (hs : s.stream.state = .running) :
    ∃ r rest, s.ring = r :: rest := by
  obtain ⟨⟨hl, _⟩, fits, _⟩ := hk
  rw [hs] at fits
  have full : s.ring.length = s.stream.lEff := fits
  exact List.exists_cons_of_length_pos (by omega)

/-- R37: the counts of a SAMPLE slot in a reel, before its release and admission. -/
def slotTaken (f : Option LinkFrame) (s : State) : State :=
  countSlot ((slotCounted f s).setOut { s.out with slot := idleSlot })

section

variable (f : Option LinkFrame) (s : State)

@[simp] theorem slotTaken_power : (slotTaken f s).power = s.power := rfl
@[simp] theorem slotTaken_link : (slotTaken f s).link = s.link := rfl
@[simp] theorem slotTaken_stream : (slotTaken f s).stream = s.stream := rfl
@[simp] theorem slotTaken_ring : (slotTaken f s).ring = s.ring := rfl
@[simp] theorem slotTaken_tracker : (slotTaken f s).tracker = s.tracker := rfl
@[simp] theorem slotTaken_det : (slotTaken f s).det = s.det := rfl
@[simp] theorem slotTaken_lastOut : (slotTaken f s).lastOut = s.lastOut := rfl
@[simp] theorem slotTaken_hiss : (slotTaken f s).hiss = s.hiss := rfl
@[simp] theorem slotTaken_tables : (slotTaken f s).tables = s.tables := rfl
@[simp] theorem slotTaken_fault : (slotTaken f s).fault = s.fault := rfl
@[simp] theorem slotTaken_store : (slotTaken f s).store = s.store := rfl
@[simp] theorem slotTaken_upset : (slotTaken f s).upset = s.upset := rfl
@[simp] theorem slotTaken_film : (slotTaken f s).film = { s.film with offset := satInc s.film.offset } := rfl
@[simp] theorem slotTaken_counters : (slotTaken f s).counters = (slotCounted f s).counters := rfl
@[simp] theorem slotTaken_out : (slotTaken f s).out = { s.out with slot := idleSlot } := rfl
@[simp] theorem setting_slotTaken (b : BankId) (r : FieldRef) : setting (slotTaken f s) b r = setting s b r := rfl

end

/-- The counts of a slot change nothing of what departs. -/
theorem departingValue_slotTaken (f : Option LinkFrame) (s : State) (r : FrameRecord) :
    departingValue (slotTaken f s) r = departingValue s r :=
  departingValue_congr (slotTaken_tables f s) (slotTaken_lastOut f s) (slotTaken_hiss f s) r

/-- R16: a slot in RUNNING releases a record and admits one. -/
theorem streamStep_running {s : State} {m : Marker} (c : SlotClass) (f : Option LinkFrame)
    (h : s.stream.state = .running) (hm : quietMarker m) :
    streamStep m c (slotCounted f s) =
      checkRunning (admitRecord m s.film.offset (slotSamples c) (release (slotTaken f s))) := by
  have state : (slotCounted f s).stream.state = .running := h
  simp only [streamStep, State.setOut_stream, state, arriveRunning, admitSlot_quiet hm]
  rfl

/-- R8, R13: a quiet slot that is not bad leaves the link GOOD, and its frame departs. -/
theorem servedArrival_accepts {f : Option LinkFrame} {s v : State} (h : QuietSlot f)
    (hc : countsBad (classOf f) s.stream.state = false)
    (hv : streamStep (deliveredMarker f) (classOf f) (slotCounted f s) = v) :
    ∃ w t c e, servedArrival f s =
      ((((v.setLink ⟨.good, 0, v.link.lastAccepted⟩).setTx t).setCmd c).setEvents e).setOut
        ⟨v.out.slot, some (formFrame (departingFrame v.out.slot w))⟩ := by
  obtain ⟨cu, served⟩ := servedArrival_quietSlot h s
  obtain ⟨e, linked⟩ := updateLink_accepts (s := v.setCmd cu) hc
  obtain ⟨w, t, c, e', egress⟩ := egressStep_frame
    (((v.setCmd cu).setLink ⟨.good, 0, (v.setCmd cu).link.lastAccepted⟩).setEvents e)
  refine ⟨w, t, c, e', ?_⟩
  rw [served, hv, linked, egress]
  rfl

/-- Settles O47: `kept_release` and then `kept_admission` behind it; the link condition and the arbiter leave the
rest. -/
theorem runningSlotMovesTheRing : Obligations.RunningSlotMovesTheRing := by
  refine ⟨fun s f hv hk hs ht hc hn => ?_, checkRunning_eq⟩
  have quiet : QuietSlot (some f) :=
    quietSlot_of (.inr ⟨f, rfl, hn, fun _ => hc⟩)
  have marker : deliveredMarker (some f) = markerOf f.markerCode := by simp [deliveredMarker, ht]
  have cls : classOf (some f) = .sample f.samples := by simp [classOf, ht]
  obtain ⟨r, rest, hr⟩ := ring_of_running hk hs
  obtain ⟨hiss, gone⟩ := kept_release (s := slotTaken (some f) s) hr
  set u := release (slotTaken (some f) s)
  obtain ⟨x, come⟩ := kept_admission (markerOf f.markerCode) s.film.offset (some f.samples) u
  have names := admittedRecord_names (markerOf f.markerCode) s.film.offset (some f.samples) u
  set new := admittedRecord (markerOf f.markerCode) s.film.offset (some f.samples) u
  set v := admitRecord (markerOf f.markerCode) s.film.offset (some f.samples) u
  have stream : v.stream = { s.stream with nextSerial := s.stream.nextSerial + 1 } := by
    rw [come.stream, placed_stream, gone.stream]
    simp [hs]
  have values : v.lastOut = Quad.build (departingValue s r) := by
    rw [come.lastOut, placed_lastOut, gone.lastOut, afterRelease_lastOut, departingValue_slotTaken]
  have slot : v.out.slot = ⟨.sample, r.marker, v.lastOut⟩ := by
    rw [come.out, come.lastOut, placed_out, placed_lastOut, gone.out, gone.lastOut]; rfl
  have stepped : streamStep (deliveredMarker (some f)) (classOf (some f)) (slotCounted (some f) s) = v := by
    rw [streamStep_running _ _ hs quiet.1, marker, cls]
    exact checkRunning_of_ne (s := v) (by rw [stream, hs]; decide)
  obtain ⟨w, t, c, e, served⟩ := servedArrival_accepts quiet (by rw [cls]; rfl) stepped
  refine ⟨_, r, rest, new, w, hr, (exec_arrival hv _).trans (by rw [parseFrame_formFrame, served]), ?_, ?_,
    ?_, ?_, ?_, ?_, fun ch => ?_, ?_, ?_⟩
  · simpa [gone.ring] using come.ring
  · simp only [Prod.mk.injEq] at names ⊢
    obtain ⟨serial, mark, tag, offset, bank, _⟩ := names
    refine ⟨serial.trans ?_, mark, tag.trans ?_, offset, bank.trans ?_⟩
    · simp [gone.stream]
    · simp [gone.film]
    · simp [gone.active]
  · simpa using stream
  · simp [come.link]
  · simp [come.film, gone.film]
  · simp [slot]
  · simp [values]
  · simp [slot, departingFrame]
  · simp [come.power, come.store, come.bank0, come.bank1, come.active, come.pendingX, gone.power, gone.store,
      gone.bank0, gone.bank1, gone.active, gone.pendingX]

end Sys2Proof.SampleLink
end

section
/-! Admissions in a bypass (R74, R91, R178): with no context open nothing of the ring is rewritten. -/

namespace Sys2Proof.SampleLink

open Sys2Proof Sys2Proof.Machine Sys2Proof.Safety

/-- R178: the mode is not NORMAL and no context is open. -/
def InBypass (s : State) : Prop := s.fault.mode ≠ .normal ∧ ∀ ch, (s.det.get ch).ctx = none

/-- An operation that keeps a bypass and rewrites nothing of the ring in it. -/
structure IdlesInBypass (s t : State) : Prop where
  idles : InBypass s → InBypass t ∧ t.ring = s.ring

namespace IdlesInBypass

variable {s t u : State}

theorem refl (s : State) : IdlesInBypass s s := ⟨fun h => ⟨h, rfl⟩⟩

theorem trans (a : IdlesInBypass s t) (b : IdlesInBypass t u) : IdlesInBypass s u :=
  ⟨fun h =>
    have ⟨ht, rt⟩ := a.idles h
    have ⟨hu, ru⟩ := b.idles ht
    ⟨hu, ru.trans rt⟩⟩

theorem ite {p : Prop} [Decidable p] (a : IdlesInBypass s t) (b : IdlesInBypass s u) :
    IdlesInBypass s (if p then t else u) := by
  split <;> assumption

end IdlesInBypass

theorem idlesInBypass_eachChannel {f : Channel → State → State} (h : ∀ c s, IdlesInBypass s (f c s)) (s : State) :
    IdlesInBypass s (eachChannel f s) := (((h _ _).trans (h _ _)).trans (h _ _)).trans (h _ _)

variable (s : State)

theorem idlesInBypass_raise (k : EventKind) (ch : Option Channel) (p : Option (BitVec 32)) :
    IdlesInBypass s (raise k ch p s) := ⟨fun h => ⟨h, rfl⟩⟩

theorem idlesInBypass_setTracker (x : Tracker) : IdlesInBypass s (s.setTracker x) := ⟨fun h => ⟨h, rfl⟩⟩

theorem idlesInBypass_setCanc (x : Canceller) : IdlesInBypass s (s.setCanc x) := ⟨fun h => ⟨h, rfl⟩⟩

theorem idlesInBypass_setWork (x : Work) : IdlesInBypass s (s.setWork x) := ⟨fun h => ⟨h, rfl⟩⟩

theorem idlesInBypass_setTables (x : Tables) : IdlesInBypass s (s.setTables x) := ⟨fun h => ⟨h, rfl⟩⟩

theorem idlesInBypass_setFault {x : FaultUnit} (hx : s.fault.mode ≠ .normal → x.mode ≠ .normal) :
    IdlesInBypass s (s.setFault x) := ⟨fun h => ⟨⟨hx h.1, h.2⟩, rfl⟩⟩

theorem idlesInBypass_setDet {d : Quad Detector} (hd : ∀ ch, (s.det.get ch).ctx = none → (d.get ch).ctx = none) :
    IdlesInBypass s (s.setDet d) := ⟨fun h => ⟨⟨h.1, fun ch => hd ch (h.2 ch)⟩, rfl⟩⟩

theorem idlesInBypass_setDetector (c : Channel) (d : Detector) (h : (s.det.get c).ctx = none → d.ctx = none) :
    IdlesInBypass s (setDetector c d s) := idlesInBypass_setDet s (closing_setDetector s c d h).opensNone

/-- R176, R177: a fault in a bypass leaves the mode other than NORMAL, and closes nothing. -/
theorem idlesInBypass_takeFault (k : FaultKind) (ch : Option Channel) (e : Option Engine) :
    IdlesInBypass s (takeFault k ch e s) := by
  refine ⟨fun h => ?_⟩
  unfold takeFault takeFaultWith
  split
  · have captured : IdlesInBypass s (notePolicy k (raise .fault ch (some (faultParam k e))
        (s.setFault { s.fault with capture := some (captureOf s k ch e) }))) :=
      ((idlesInBypass_setFault s (x := { s.fault with capture := some (captureOf s k ch e) })
        fun hm => hm).trans (idlesInBypass_raise ..)).trans
        (.ite (.refl _) (idlesInBypass_setTables ..))
    dsimp only
    rw [if_neg fun hb => h.1 hb.2]
    exact captured.idles h
  · have latched : IdlesInBypass s (s.setFault { s.fault with mode := .latched }) :=
      idlesInBypass_setFault s fun _ => nofun
    dsimp only
    rw [if_neg h.1]
    have doubled := latched.trans
      (idlesInBypass_setFault _ (x := { s.fault with mode := .latched, double := true }) fun _ => nofun)
    exact (doubled.trans (idlesInBypass_raise _ .doubleFault ch (some (faultParam k e)))).idles h

theorem idlesInBypass_note (b : BankId) (r : FieldRef) : IdlesInBypass s (note b r s) :=
  .ite (.refl s) (.ite (.refl s) ((idlesInBypass_setTables s _).trans (idlesInBypass_takeFault ..)))

theorem idlesInBypass_noteActive (r : FieldRef) : IdlesInBypass s (noteActive r s) := idlesInBypass_note s _ r

theorem idlesInBypass_perfMissStep : IdlesInBypass s (perfMissStep s) := by
  refine .ite ?_ (.refl s)
  have missed (x : Tracker) : IdlesInBypass s ((noteActive (.stream .missLimit) s).setTracker x) :=
    (idlesInBypass_noteActive s _).trans (idlesInBypass_setTracker _ x)
  exact (missed _).trans (.ite (idlesInBypass_raise ..) (.refl _))

/-- R91: with no context open the forced closes of a mode change empty the histories alone. -/
theorem idlesInBypass_bypassCloses : IdlesInBypass s (bypassCloses s) := by
  refine ⟨fun h => ?_⟩
  have nothing : eachChannel (fun ch t => closeOne ch (newestSerial t) t) s = s :=
    eachChannel_id fun c => by simp [closeOne, h.2 c]
  rw [bypassCloses, nothing]
  exact (idlesInBypass_setDet s fun ch hc => by rwa [Quad.get_build]).idles h

theorem idlesInBypass_endAdmission : IdlesInBypass s (endAdmission s) :=
  (idlesInBypass_setWork s _).trans (.ite (idlesInBypass_bypassCloses _) (.refl _))

/-- R74, R91: a record that was not admitted in NORMAL is not watched. -/
theorem idlesInBypass_detectChannel {r : FrameRecord} (hr : r.processed = false) (ch : Channel) :
    IdlesInBypass s (detectChannel r ch s) := by
  refine ⟨fun h => ?_⟩
  have skips : detectChannel r ch s = skipPosition ch r s := by simp [detectChannel, isWatched, noteWatched, hr]
  rw [skips, skipPosition, closeContext_none (h.2 ch)]
  exact ((idlesInBypass_setDetector s ch _ (by exact id)).trans
    (idlesInBypass_setDetector _ ch _ (by exact id))).idles h

/-! ### A held record (R10) -/

variable (stamp : BitVec 16) (samples : Option (Quad Sample))

/-- R59: nothing is subtracted in a bypass. -/
theorem subtractAll_bypass (accepted : Bool) (x : Quad Sample) : subtractAll false accepted x s = s :=
  eachChannel_id fun _ => rfl

/-- R44: before a record without a marker is placed a bypass stands. -/
theorem idlesInBypass_subtracted (h : InBypass s) : InBypass (subtracted .none samples s) := by
  have mode : (s.fault.mode == .normal) = false := by simpa using h.1
  have taken : IdlesInBypass (beforeRecord samples s) (recordTaken .none samples s) :=
    ((idlesInBypass_setTracker _ _).trans (idlesInBypass_perfMissStep _)).trans (idlesInBypass_noteActive ..)
  have before : InBypass (beforeRecord samples s) := by rw [beforeRecord_eq]; exact h
  rw [subtracted, mode, subtractAll_bypass]
  exact ((taken.trans (idlesInBypass_setCanc ..)).idles before).1

/-- R74: in a bypass the detector leaves the record as it was placed. -/
theorem admitRecord_ring_bypass (h : InBypass s) : (admitRecord .none stamp samples s).ring =
    (subtracted .none samples s).ring ++ [admittedRecord .none stamp samples s] := by
  have unprocessed : (admittedRecord .none stamp samples s).processed = false := by
    simpa [admittedRecord, upsetRecord] using h.1
  have placed : InBypass (recordPlaced .none stamp samples s) := by
    simpa [InBypass, recordPlaced, placeInRing] using idlesInBypass_subtracted s samples h
  have ring : (recordPlaced .none stamp samples s).ring =
      (subtracted .none samples s).ring ++ [admittedRecord .none stamp samples s] := by
    simp [recordPlaced, placeInRing]
  rw [admitRecord_eq, ← ring]
  exact (((idlesInBypass_eachChannel (fun ch u => idlesInBypass_detectChannel u unprocessed ch) _).trans
    (idlesInBypass_endAdmission _)).idles placed).2

end Sys2Proof.SampleLink
end

section
/-! A BAD slot or a dropout in PRIMING (R2, R3, R6, R9, R10): the held record it admits. -/

namespace Sys2Proof.SampleLink

open Sys2Proof Sys2Proof.Machine Sys2Proof.Safety

/-! ### The entries of an admitted record (R28, R57, R63) -/

/-- R48: the tracker after the test for a miss. -/
theorem perfMissStep_tracker (s : State) : (perfMissStep s).tracker =
    if missDue s.tracker then missed (activeSetting s (.stream .missLimit)) s.tracker else s.tracker := by
  unfold perfMissStep
  split
  · have limit := (kept_noteActive s (.stream .missLimit)).tracker
    dsimp only
    rw [limit]
    split <;> rfl
  · rfl

/-- R48: a miss leaves no lock. -/
theorem missed_not_locked (n : Nat) (t : Tracker) : (missed n t).state ≠ .locked := by
  unfold missed
  dsimp only
  split <;> decide

/-- R44, R48: after a record without a marker the tracker is LOCKED exactly where it was and no miss was due. -/
theorem takeRecord_none_locked (s : State) : ((takeRecord .none s).tracker.state == .locked) =
    (s.tracker.state == .locked && (satInc s.tracker.since).toNat != s.tracker.period + s.tracker.period / 8) := by
  have taken : takeRecord .none s = perfMissStep (countSince s) := rfl
  rw [taken, perfMissStep_tracker]
  have due : missDue (countSince s).tracker = ((s.tracker.state == .locked || s.tracker.state == .coasting) &&
      (satInc s.tracker.since).toNat == s.tracker.period + s.tracker.period / 8) := rfl
  have state : (countSince s).tracker.state = s.tracker.state := rfl
  by_cases h : missDue (countSince s).tracker = true
  · rw [if_pos h, beq_false_of_ne (missed_not_locked _ _)]
    rw [due, Bool.and_eq_true] at h
    simp [beq_iff_eq.1 h.2]
  · rw [if_neg h, state]
    rw [due] at h
    cases hl : s.tracker.state <;> simp_all

section

variable (m : Marker) (stamp : BitVec 16) (samples : Option (Quad Sample)) (s : State)

/-- R136: the settings as the entries of a record are formed. -/
theorem setting_recordTaken (b : BankId) (f : FieldRef) : setting (recordTaken m samples s) b f = setting s b f := by
  rw [(kept_recordTaken m samples s).setting, beforeRecord_eq]
  cases b <;> rfl

theorem active_recordTaken : (recordTaken m samples s).tables.active = s.tables.active := by
  rw [(kept_recordTaken m samples s).active, beforeRecord_eq]
  rfl

/-- R137: a channel is active in an admission where the active bank selects it. -/
theorem selected_recordTaken (ch : Channel) :
    selected (recordTaken m samples s) (recordTaken m samples s).tables.active ch =
      inMask (setting s s.tables.active (.stream .channelMask)) ch := by
  rw [selected, active_recordTaken, setting_recordTaken]

/-- R10, R63: the flags of an admitted record. -/
theorem admittedRecord_flags (ch : Channel) : ((admittedRecord m stamp samples s).entries.get ch).flags =
    if inMask (setting s s.tables.active (.stream .channelMask)) ch then
      admittedFlags samples.isNone (s.film.guard != 0) ((recordTaken m samples s).tracker.state != .locked)
    else noFlags := by
  simp only [admittedRecord, upsetRecord, admittedEntries, Quad.get_build, admittedEntry, selected_recordTaken]
  split <;> rfl

/-- R63: the tracker hold of a record without a marker. -/
theorem recordTaken_none_hold : ((recordTaken .none samples s).tracker.state != .locked) =
    !(s.tracker.state == .locked && (satInc s.tracker.since).toNat != s.tracker.period + s.tracker.period / 8) := by
  have noted := (kept_noteActive (takeRecord .none (beforeRecord samples s)) (.stream .channelMask)).tracker
  rw [recordTaken, noted, bne, takeRecord_none_locked, beforeRecord_eq]
  rfl

theorem upset_subtracted : (subtracted m samples s).upset = s.upset := by
  rw [(kept_subtracted m samples s).upset, beforeRecord_eq]
  rfl

/-- R9, R10: the values of a record admitted in a bypass. -/
theorem admittedRecord_cell_bypass (hm : s.fault.mode ≠ .normal) (hu : NoUpset s) (ch : Channel) :
    ((admittedRecord m stamp samples s).entries.get ch).cell =
      freshCell (if inMask (setting s s.tables.active (.stream .channelMask)) ch then
        (samples.getD s.link.lastAccepted).get ch else 0) := by
  have mode : (s.fault.mode == .normal) = false := by simpa using hm
  have upset : (subtracted m samples s).upset = Quad.all false := (upset_subtracted m samples s).trans hu
  simp only [admittedRecord, upset, upsetRecord_none, admittedEntries, Quad.get_build, admittedEntry,
    selected_recordTaken, mode]
  split <;> rfl

end

/-- What the entries of two records share where the same stands of both. -/
theorem flags_of_bareRecord_eq {a b : FrameRecord} (h : bareRecord a = bareRecord b) (ch : Channel) :
    (a.entries.get ch).flags.link = (b.entries.get ch).flags.link ∧
      (a.entries.get ch).flags.noAdaptP = (b.entries.get ch).flags.noAdaptP ∧
      (a.entries.get ch).flags.noAdaptM = (b.entries.get ch).flags.noAdaptM := by
  have flags := congrArg (fun r => (r.entries.get ch).flags) h
  simpa [bareRecord] using flags

/-! ### The slot (R6) -/

/-- A BAD slot, or an IDLE one without a control word. -/
def HeldSlot (f : Option LinkFrame) : Prop := f = none ∨ ∃ g, f = some g ∧ g.ftype = .idle ∧ g.kind = .none

/-- R2, R3, R6, R10: what the receiver makes of such a slot in PRIMING. -/
theorem heldSlot_facts {f : Option LinkFrame} (h : HeldSlot f) :
    QuietSlot f ∧ deliveredMarker f = .none ∧ slotSamples (classOf f) = none ∧
      countsBad (classOf f) .priming = true ∧ isDropout (classOf f) .priming = !f.isNone ∧
      markerError f = f.any (fun g => g.markerCode != 0) := by
  rcases h with rfl | ⟨⟨ft, code, x, k, w⟩, rfl, ht, hk⟩
  · exact ⟨⟨.inl rfl, nofun⟩, rfl, rfl, rfl, rfl, rfl⟩
  · obtain rfl : ft = .idle := ht
    exact ⟨⟨.inl rfl, fun g hg => by cases hg; exact hk⟩, rfl, rfl, rfl, rfl, rfl⟩

/-- R6, R13: a quiet slot that counts as bad without losing the link, and its frame. -/
theorem servedArrival_counts {f : Option LinkFrame} {s v : State} (h : QuietSlot f)
    (hc : countsBad (classOf f) s.stream.state = true) (hn : v.link.badCount < 255)
    (hv : streamStep (deliveredMarker f) (classOf f) (slotCounted f s) = v) :
    ∃ w t c e, servedArrival f s = (((((dropoutCounted (classOf f) s.stream.state v).setLink
      { v.link with badCount := v.link.badCount + 1 }).setTx t).setCmd c).setEvents e).setOut
      ⟨v.out.slot, some (formFrame (departingFrame v.out.slot w))⟩ := by
  obtain ⟨cu, served⟩ := servedArrival_quietSlot h s
  have linked := updateLink_bad (s := v.setCmd cu) hc (.inr hn)
  rw [State.setCmd_link, Nat.min_eq_right (by omega)] at linked
  obtain ⟨w, t, c, e, egress⟩ := egressStep_frame
    ((dropoutCounted (classOf f) s.stream.state (v.setCmd cu)).setLink
      { v.link with badCount := v.link.badCount + 1 })
  refine ⟨w, t, c, e, ?_⟩
  rw [served, hv, linked, egress]
  rfl

/-- R16: a slot in PRIMING admits a record. -/
theorem streamStep_priming {s : State} {m : Marker} (c : SlotClass) (f : Option LinkFrame)
    (h : s.stream.state = .priming) (hm : quietMarker m) :
    streamStep m c (slotCounted f s) =
      checkRunning (admitRecord m s.film.offset (slotSamples c) (slotTaken f s)) := by
  have state : (slotCounted f s).stream.state = .priming := h
  simp only [streamStep, State.setOut_stream, state, arrivePriming, admitSlot_quiet hm]
  rfl

/-- R22, R29: an admission brings the ring one record nearer to L_eff. -/
theorem checkRunning_filling {m : Marker} {stamp : BitVec 16} {samples : Option (Quad Sample)} {s : State}
    (h : s.ring.length + 1 < s.stream.lEff) :
    checkRunning (admitRecord m stamp samples s) = admitRecord m stamp samples s := by
  obtain ⟨x, come⟩ := kept_admission m stamp samples s
  have length : (admitRecord m stamp samples s).ring.length = s.ring.length + 1 := by
    simpa using congrArg List.length come.bareRing
  refine if_neg fun hc => ?_
  have full : (admitRecord m stamp samples s).ring.length = (admitRecord m stamp samples s).stream.lEff := hc.2
  rw [length, come.stream, placed_stream] at full
  exact absurd full (Nat.ne_of_lt h)

/-- Settles O48: the arrival is `kept_admission` of a held record, with the entries of `admittedRecord_flags` and,
in a bypass, of `admittedRecord_cell_bypass`. -/
theorem badSlotAdmitsHeldRecord : Obligations.BadSlotAdmitsHeldRecord := by
  intro s bits hv hf hs hl hb
  rw [exec_arrival hv]
  generalize parseFrame bits = f at hf ⊢
  intro lost marked active guarded locked
  obtain ⟨quiet, marker, held, bad, dropout, error⟩ := heldSlot_facts hf
  obtain ⟨x, come⟩ := kept_admission .none s.film.offset none (slotTaken f s)
  have names := admittedRecord_names .none s.film.offset none (slotTaken f s)
  have flags := admittedRecord_flags .none s.film.offset none (slotTaken f s)
  have trackerHold := recordTaken_none_hold none (slotTaken f s)
  have values := admittedRecord_cell_bypass .none s.film.offset none (slotTaken f s)
  have whole := admitRecord_ring_bypass (slotTaken f s) s.film.offset none
  set admitted := admittedRecord .none s.film.offset none (slotTaken f s)
  set v := admitRecord .none s.film.offset none (slotTaken f s)
  have bareRing : v.ring.map bareRecord = (s.ring ++ [admitted]).map bareRecord := by
    simpa using come.bareRing
  obtain ⟨front, new, ring, older, same⟩ := exists_newest bareRing
  have stream : v.stream = { s.stream with nextSerial := s.stream.nextSerial + 1 } := by
    simpa using come.stream
  have link : v.link = s.link := by
    simpa using come.link
  have stepped : streamStep (deliveredMarker f) (classOf f) (slotCounted f s) = v := by
    rw [streamStep_priming _ _ hs quiet.1, marker, held]
    exact checkRunning_filling hl
  obtain ⟨w, t, c, e, served⟩ := servedArrival_counts quiet (by rw [hs]; exact bad) (by rw [link]; exact hb) stepped
  refine ⟨_, new, w, congrArg _ served, ?_, ?_, ?_, fun ch => ?_, fun ch hch => ?_,
    fun hm hu hc ch => ?_, ?_, ?_, ?_, ?_, ?_, ?_, ?_, ?_⟩
  · simp [dropoutCounted, ring]
  · have keys : front.map recordKey = s.ring.map recordKey := by
      rw [← map_recordKey_bare, older, map_recordKey_bare]
    simp [dropoutCounted, ring, keys]
  · exact (congrArg (fun r => (r.serial, r.marker, r.tag, r.offset, r.bank, r.processed)) same).trans names
  · obtain ⟨link, _, _⟩ := flags_of_bareRecord_eq same ch
    rw [link, flags ch]
    cases hch : active ch
    · rw [if_neg (by simpa using hch)]; rfl
    · rw [if_pos (by simpa using hch)]; rfl
  · obtain ⟨_, perf, mains⟩ := flags_of_bareRecord_eq same ch
    rw [perf, mains, flags ch, if_pos (by simpa using hch), trackerHold]
    rfl
  · have last : new = admitted := by
      have rings := whole ⟨hm, hc⟩
      rw [ring] at rings
      exact (List.append_inj' rings rfl).2 |> List.cons.inj |>.1
    rw [last, values hm hu ch]
    rfl
  · simpa [dropoutCounted] using stream
  · simp [link]
  · simpa [dropoutCounted, slotCounted, lost] using come.badFrame
  · have counted : v.counters.dropout = s.counters.dropout := by simpa [slotCounted] using come.dropout
    rw [hs]
    cases f <;> simp [dropoutCounted, dropout, counted, lost]
  · simpa [dropoutCounted, slotCounted, error, marked] using come.markerError
  · have slot : v.out.slot = idleSlot := by simp [come.out]
    rw [State.setOut_out, slot]
    rfl
  · simp [dropoutCounted, come.film]
  · simp [dropoutCounted, come.power, come.store, come.bank0, come.bank1, come.active, come.pendingX]

end Sys2Proof.SampleLink
end

section
/-! An admission in NORMAL with sound memory (R28, R56, R59, R60, R63): what each channel stores, and the clips. -/

namespace Sys2Proof.SampleLink

open Sys2Proof Sys2Proof.Machine Sys2Proof.Safety

/-! ### Parts with the same tables -/

/-- R136: the settings are the tables' alone. -/
theorem setting_of_tables {s t : State} (h : t.tables = s.tables) (b : BankId) (f : FieldRef) :
    setting t b f = setting s b f := by
  simp only [setting, storedField, h]

theorem soundTables_of_tables {s t : State} (h : t.tables = s.tables) (hs : SoundTables s) : SoundTables t :=
  fun b f => by simpa only [storedField, h] using hs b f

/-! ### The tracker's part (R44, R48) -/

/-- R48: with sound tables a miss changes the tracker, but for its period, and the events. -/
theorem perfMissStep_sound {s : State} (h : SoundTables s) :
    ∃ x e, perfMissStep s = (s.setTracker x).setEvents e ∧ x.period = s.tracker.period := by
  unfold perfMissStep
  split
  · dsimp only
    rw [noteActive_of_sound h]
    split
    · exact ⟨_, _, rfl, rfl⟩
    · exact ⟨missed (activeSetting s (.stream .missLimit)) s.tracker, s.events, rfl, rfl⟩
  · exact ⟨s.tracker, s.events, rfl, rfl⟩

/-- R44: with sound tables a record without a marker changes no more. -/
theorem recordTaken_none_sound {s : State} (h : SoundTables s) (samples : Option (Quad Sample)) :
    ∃ x e, recordTaken .none samples s = ((beforeRecord samples s).setTracker x).setEvents e ∧
      x.period = s.tracker.period := by
  have before : SoundTables (countSince (beforeRecord samples s)) := by rw [beforeRecord_eq]; exact h
  obtain ⟨x, e, taken, period⟩ := perfMissStep_sound before
  have sound : SoundTables (takeRecord .none (beforeRecord samples s)) := by
    have record : takeRecord .none (beforeRecord samples s) =
        perfMissStep (countSince (beforeRecord samples s)) := rfl
    rw [record, taken]; exact before
  refine ⟨x, e, ?_, period.trans (by rw [beforeRecord_eq]; rfl)⟩
  rw [recordTaken, noteActive_of_sound sound]
  exact taken

/-! ### The clips (R59, R60) -/

/-- A state with another count of clips. -/
def withClips (n : Count) (s : State) : State := s.setCounters { s.counters with subClip := n }

/-- R60: one clip for each of the channels that clip, channels 0 to 3. -/
def clipsCounted (p : Channel → Bool) (n : Count) : Count :=
  ([Channel.ch0, .ch1, .ch2, .ch3].filter p).foldl (fun n _ => satInc n) n

/-- An operation that counts a clip on some channels counts one for each of them. -/
theorem eachChannel_clips {f : Channel → State → State} {p : Channel → Bool} {s : State}
    (h : ∀ ch n, f ch (withClips n s) = withClips (if p ch then satInc n else n) s) :
    eachChannel f s = withClips (clipsCounted p s.counters.subClip) s := by
  have start : s = withClips s.counters.subClip s := rfl
  rw [clipsCounted, List.foldl_filter]
  conv_lhs => rw [start]
  simp only [eachChannel, h, List.foldl_cons, List.foldl_nil]

/-- R61: the read of a bin that passes its check changes nothing. -/
theorem readBin_sound {s : State} {ch : Channel} {e : Engine} {b : BitVec 6}
    (h : cellOk (binCell s.canc ch e b) = true) : readBin ch e b s = s := if_pos h

/-- R59, R60: with sound tables and templates the subtraction of a channel can only count a clip. -/
theorem subtractMarks_sound {s : State} (ht : SoundTables s)
    (hc : ∀ (ch : Channel) (e : Engine) (b : BitVec 6), cellOk (binCell s.canc ch e b) = true) (ch : Channel)
    (x : Sample) (pb mb : BitVec 6) :
    subtractMarks ch x pb mb s = if clips (difference s ch x pb mb) then countClip s else s := by
  simp only [subtractMarks, note_of_sound ht, readBin_sound (hc ch _ _), ite_self]

/-- R56, R59: the difference of a channel at the part's own phases, without a marker. -/
def plainDifference (s : State) (x : Quad Sample) (ch : Channel) : Int :=
  difference s ch (x.get ch) (perfBinNow s false ch) (mainsBinNow s ch)

/-- R60: the clips of the subtractions of one record without an accepted marker. -/
theorem subtractAll_sound {s : State} (ht : SoundTables s)
    (hc : ∀ (ch : Channel) (e : Engine) (b : BitVec 6), cellOk (binCell s.canc ch e b) = true) (x : Quad Sample) :
    subtractAll true false x s = withClips (clipsCounted (fun ch =>
      selected s s.tables.active ch && clips (plainDifference s x ch)) s.counters.subClip) s := by
  refine eachChannel_clips fun ch n => ?_
  have marks := subtractMarks_sound (s := withClips n s) ht hc ch (x.get ch) (perfBinNow s false ch) (mainsBinNow s ch)
  have same : difference (withClips n s) ch (x.get ch) (perfBinNow s false ch) (mainsBinNow s ch) =
      plainDifference s x ch := rfl
  rw [same] at marks
  change (if true && selected s s.tables.active ch then subtractMarks ch (x.get ch) (perfBinNow s false ch)
    (mainsBinNow s ch) (withClips n s) else withClips n s) = _
  rw [marks]
  cases selected s s.tables.active ch <;> cases clips (plainDifference s x ch) <;> rfl

/-- R59: what an engine subtracts where its bins are sound. -/
theorem subtrahend_sound {s : State} {ch : Channel} {e : Engine} {b : BitVec 6}
    (h : cellOk (binCell s.canc ch e b) = true) : subtrahend s ch e b =
      if setting s s.tables.active (enableField ch e) = 0 then 0 else (binCell s.canc ch e b).val.toInt := by
  rw [subtrahend, binValue, if_pos h, isSet]
  by_cases hz : setting s s.tables.active (enableField ch e) = 0 <;> simp [hz]

/-! ### The detector on channels that are not click-enabled (R74) -/

/-- No channel is click-enabled in the active bank, and no context is open. -/
def NoClicks (s : State) : Prop :=
  ∀ ch, (s.det.get ch).ctx = none ∧ setting s s.tables.active (.chan ch .clickEnable) = 0

/-- R74, R91: a position that is not watched, with no context open, changes the detectors alone. -/
theorem detectChannel_unwatched {s : State} (ht : SoundTables s) (hn : NoClicks s) (r : FrameRecord) (ch : Channel) :
    ∃ d, detectChannel r ch s = s.setDet d ∧ ∀ c, (d.get c).ctx = none := by
  have unwatched : isWatched s r ch = false := by simp [isWatched, isSet, (hn ch).2]
  have noted : noteWatched r ch s = s := by simp [noteWatched, noteActive_of_sound ht]
  have skips : detectChannel r ch s = skipPosition ch r s := by simp [detectChannel, unwatched, noted]
  rw [skips, skipPosition, closeContext_none (hn ch).1]
  refine ⟨_, rfl, fun c => ?_⟩
  simp only [setDetector_det, Quad.get_set]
  split
  · simp [(hn ch).1]
  · exact (hn c).1

/-- R74: the detector's work on the four channels then changes the detectors alone. -/
theorem detectChannels_unwatched {s : State} (ht : SoundTables s) (hn : NoClicks s) (r : FrameRecord) :
    ∃ d, eachChannel (detectChannel r) s = s.setDet d := by
  let Idles (t : State) : Prop := ∃ d, t = s.setDet d ∧ ∀ c, (d.get c).ctx = none
  have step (ch : Channel) (t : State) (h : Idles t) : Idles (detectChannel r ch t) := by
    obtain ⟨d, rfl, closed⟩ := h
    have sound : SoundTables (s.setDet d) := ht
    exact detectChannel_unwatched sound (fun c => ⟨closed c, (hn c).2⟩) r ch
  obtain ⟨d, result, _⟩ := eachChannel_keeps step (s := s) ⟨s.det, rfl, fun c => (hn c).1⟩
  exact ⟨d, result⟩

/-- R178: with no closes waiting the end of an admission changes nothing else. -/
theorem endAdmission_quiet {s : State} (h : s.work.closesPending = false) :
    endAdmission s = s.setWork ⟨false, false⟩ := by
  simp [endAdmission, h]

/-! ### The admission (R28, R59) -/

section

variable (stamp : BitVec 16) (samples : Option (Quad Sample)) (s : State)

/-- R28, R59: what the entries of a record without a marker are formed from stands as its admission began. -/
theorem recordTaken_none_stands (ht : SoundTables s) :
    (recordTaken .none samples s).canc = s.canc ∧ (recordTaken .none samples s).tables = s.tables ∧
      (recordTaken .none samples s).det = s.det ∧ (recordTaken .none samples s).counters = s.counters ∧
      (recordTaken .none samples s).ring = s.ring ∧
      (recordTaken .none samples s).work = ⟨true, s.work.closesPending⟩ ∧
      (recordTaken .none samples s).link = { s.link with lastAccepted := samples.getD s.link.lastAccepted } ∧
      (recordTaken .none samples s).tracker.period = s.tracker.period := by
  obtain ⟨x, e, taken, period⟩ := recordTaken_none_sound ht samples
  rw [taken, beforeRecord_eq]
  exact ⟨rfl, rfl, rfl, rfl, rfl, rfl, rfl, period⟩

/-- R56: the bins a record without a marker takes. -/
theorem binsNow_recordTaken (ht : SoundTables s) (ch : Channel) :
    perfBinNow (recordTaken .none samples s) false ch = perfBinNow s false ch ∧
      mainsBinNow (recordTaken .none samples s) ch = mainsBinNow s ch := by
  obtain ⟨canc, _, _, _, _, _, _, period⟩ := recordTaken_none_stands samples s ht
  simp only [perfBinNow, mainsBinNow, canc, period, and_self]

/-- R59: the difference of a record without a marker. -/
theorem plainDifference_recordTaken (ht : SoundTables s) (x : Quad Sample) (ch : Channel) :
    plainDifference (recordTaken .none samples s) x ch = plainDifference s x ch := by
  obtain ⟨canc, tables, _⟩ := recordTaken_none_stands samples s ht
  obtain ⟨perf, mains⟩ := binsNow_recordTaken samples s ht ch
  have subtrahends (e : Engine) (b : BitVec 6) :
      subtrahend (recordTaken .none samples s) ch e b = subtrahend s ch e b := by
    rw [subtrahend, canc, isSet, setting_of_tables tables, tables]
    rfl
  simp only [plainDifference, difference, subtrahends, perf, mains]

/-- R59, R60: from NORMAL and sound memory the subtractions count the clips of the active channels, and the phases
advance. -/
theorem subtracted_none (ht : SoundTables s) (hc : SoundCells s) (hm : s.fault.mode = .normal) :
    ∃ c, subtracted .none samples s = (withClips (clipsCounted (fun ch =>
        inMask (setting s s.tables.active (.stream .channelMask)) ch &&
          clips (plainDifference s (samples.getD s.link.lastAccepted) ch)) s.counters.subClip)
      (recordTaken .none samples s)).setCanc c := by
  have mode : (s.fault.mode == .normal) = true := by simp [hm]
  have unaccepted : markerAccepted .none (beforeRecord samples s) = false := rfl
  obtain ⟨canc, tables, _, counters, _⟩ := recordTaken_none_stands samples s ht
  have sound := soundTables_of_tables tables ht
  have cells : ∀ (ch : Channel) (e : Engine) (b : BitVec 6),
      cellOk (binCell (recordTaken .none samples s).canc ch e b) = true := by rw [canc]; exact hc.2
  rw [subtracted, mode, unaccepted, subtractAll_sound sound cells, counters, advancePhases]
  simp only [selected_recordTaken, plainDifference_recordTaken samples s ht]
  exact ⟨_, rfl⟩

/-- R28, R57, R59, R63: the entries of a record admitted in NORMAL without a marker. -/
theorem admittedRecord_entries_normal (ht : SoundTables s) (hm : s.fault.mode = .normal) (hu : NoUpset s)
    (ch : Channel) : (admittedRecord .none stamp samples s).entries.get ch =
      if inMask (setting s s.tables.active (.stream .channelMask)) ch then
        ⟨freshCell (saturate24 (plainDifference s (samples.getD s.link.lastAccepted) ch)), perfBinNow s false ch,
          mainsBinNow s ch, admittedFlags samples.isNone (s.film.guard != 0)
            ((recordTaken .none samples s).tracker.state != .locked)⟩
      else inactiveEntry := by
  have mode : (s.fault.mode == .normal) = true := by simp [hm]
  have upset : (subtracted .none samples s).upset = Quad.all false := (upset_subtracted .none samples s).trans hu
  have unaccepted : markerAccepted .none (beforeRecord samples s) = false := rfl
  obtain ⟨perf, mains⟩ := binsNow_recordTaken samples s ht ch
  have diff := plainDifference_recordTaken samples s ht (samples.getD s.link.lastAccepted) ch
  rw [plainDifference, perf, mains] at diff
  simp only [admittedRecord, upset, upsetRecord_none, admittedEntries, Quad.get_build, admittedEntry,
    selected_recordTaken, mode, unaccepted, perf, mains, diff, if_true]

/-- R9, R30, R60, R74: what such an admission leaves, with no channel click-enabled. -/
theorem admitRecord_none_normal (ht : SoundTables s) (hc : SoundCells s) (hm : s.fault.mode = .normal)
    (hw : s.work = ⟨false, false⟩) (hn : NoClicks s) :
    let t := admitRecord .none stamp samples s
    t.ring = s.ring ++ [admittedRecord .none stamp samples s] ∧
      t.link = { s.link with lastAccepted := samples.getD s.link.lastAccepted } ∧
      t.counters = { s.counters with subClip := clipsCounted (fun ch =>
        inMask (setting s s.tables.active (.stream .channelMask)) ch &&
          clips (plainDifference s (samples.getD s.link.lastAccepted) ch)) s.counters.subClip } := by
  obtain ⟨c, result⟩ := subtracted_none samples s ht hc hm
  obtain ⟨_, tables, det, counters, ring, work, link, _⟩ := recordTaken_none_stands samples s ht
  have placed : recordPlaced .none stamp samples s = (placeInRing (admittedRecord .none stamp samples s)
    (subtracted .none samples s)).setUpset (Quad.all false) := rfl
  rw [result] at placed
  have placedTables : (recordPlaced .none stamp samples s).tables = s.tables := by
    simp [placed, placeInRing, withClips, tables]
  have placedDet : (recordPlaced .none stamp samples s).det = s.det := by
    simp [placed, placeInRing, withClips, det]
  have quiet : NoClicks (recordPlaced .none stamp samples s) := fun ch => by
    rw [setting_of_tables placedTables, placedTables, placedDet]; exact hn ch
  obtain ⟨d, detected⟩ := detectChannels_unwatched (soundTables_of_tables placedTables ht) quiet
    (admittedRecord .none stamp samples s)
  have noCloses : ((recordPlaced .none stamp samples s).setDet d).work.closesPending = false := by
    simp [placed, placeInRing, withClips, work, hw]
  rw [admitRecord_eq, detected, endAdmission_quiet noCloses, placed]
  simp [placeInRing, withClips, ring, link, counters]

end

/-- R59: the difference of a channel where the bins are sound. -/
theorem plainDifference_sound {s : State} (hc : SoundCells s) (x : Quad Sample) (ch : Channel) :
    plainDifference s x ch = (x.get ch).toInt -
      (if setting s s.tables.active (.chan ch .perfEnable) = 0 then 0
        else (binCell s.canc ch .perf (perfBinNow s false ch)).val.toInt) -
      (if setting s s.tables.active (.chan ch .mainsEnable) = 0 then 0
        else (binCell s.canc ch .mains (mainsBinNow s ch)).val.toInt) := by
  rw [plainDifference, difference, subtrahend_sound (hc.2 ..), subtrahend_sound (hc.2 ..)]
  rfl

/-- Settles O49: the record's entries are `admittedRecord_entries_normal`, the rest `admitRecord_none_normal`. -/
theorem admissionSubtractsTemplates : Obligations.AdmissionSubtractsTemplates := by
  intro s stamp samples ht hc hu hm hw hn a x pb mb tp tm active difference guarded locked
  have accepted : samples.getD s.link.lastAccepted = x := by cases samples <;> rfl
  have names := admittedRecord_names .none stamp samples s
  have entries := admittedRecord_entries_normal stamp samples s ht hm hu
  have trackerHold := recordTaken_none_hold samples s
  obtain ⟨ring, link, counters⟩ := admitRecord_none_normal stamp samples s ht hc hm hw hn
  have differences (ch : Channel) : plainDifference s x ch = difference ch := plainDifference_sound hc x ch
  rw [accepted] at link
  simp only [accepted, differences] at counters entries
  refine ⟨_, ring, link, ?_, fun ch hch => ?_, fun ch hch => ?_, counters⟩
  · rw [names, hm]; rfl
  · rw [entries ch, if_pos (by exact hch), trackerHold]
    exact ⟨rfl, rfl, rfl, rfl⟩
  · rw [entries ch, if_neg (by simpa using hch)]

end Sys2Proof.SampleLink
end

section
/-! One step of the part, taken apart once: what has to keep a predicate for every command to keep it. -/

namespace Sys2Proof.StreamRing

open Sys2Proof Sys2Proof.Machine Sys2Proof.Safety Sys2Proof.SampleLink

/-! ### Predicates on the stored values -/

/-- The units in which the part stores values, with the stream controller's state. -/
def storedUnits (s : State) : Stream × List FrameRecord × Canceller × Tables × ProfileStore × Quad Bool :=
  (s.stream, s.ring, s.canc, s.tables, s.store, s.upset)

/-- A predicate that rests on these units alone. -/
def OnStored (P : State → Prop) : Prop := ∀ {s t : State}, P s → storedUnits t = storedUnits s → P t

/-! ### What stands of the ring and the banks -/

/-- The names of the ring's records, the banks, the stream controller's state and the profile store stand. -/
structure RingStands (s t : State) : Prop where
  stream : t.stream = s.stream
  ring : t.ring.map recordKey = s.ring.map recordKey
  bank0 : t.tables.bank0 = s.tables.bank0
  bank1 : t.tables.bank1 = s.tables.bank1
  active : t.tables.active = s.tables.active
  other : t.tables.other = s.tables.other
  pendingX : t.tables.pendingX = s.tables.pendingX
  store : t.store = s.store

namespace RingStands

variable {s t u : State}

theorem refl (s : State) : RingStands s s := ⟨rfl, rfl, rfl, rfl, rfl, rfl, rfl, rfl⟩

theorem trans (a : RingStands s t) (b : RingStands t u) : RingStands s u :=
  ⟨b.stream.trans a.stream, b.ring.trans a.ring, b.bank0.trans a.bank0, b.bank1.trans a.bank1,
    b.active.trans a.active, b.other.trans a.other, b.pendingX.trans a.pendingX, b.store.trans a.store⟩

theorem ite {p : Prop} [Decidable p] (a : RingStands s t) (b : RingStands s u) :
    RingStands s (if p then t else u) := by
  split <;> assumption

theorem of_units (h : storedUnits t = storedUnits s) : RingStands s t := by
  simp only [storedUnits, Prod.mk.injEq] at h
  obtain ⟨stream, ring, -, tables, store, -⟩ := h
  constructor <;> simp only [stream, ring, tables, store]

theorem of_kept (h : Kept s t) : RingStands s t :=
  ⟨h.stream, h.ring, h.bank0, h.bank1, h.active, h.other, h.pendingX, h.store⟩

section

variable (h : RingStands s t)

include h

theorem raise (k : EventKind) (ch : Option Channel) (p : Option (BitVec 32)) : RingStands s (raise k ch p t) :=
  h.trans (of_units rfl)

theorem setFilm (x : Film) : RingStands s (t.setFilm x) := h.trans (of_units rfl)

theorem setTracker (x : Tracker) : RingStands s (t.setTracker x) := h.trans (of_units rfl)

theorem note (b : BankId) (r : FieldRef) : RingStands s (note b r t) := h.trans (of_kept (kept_note ..))

theorem noteActive (r : FieldRef) : RingStands s (noteActive r t) := h.note ..

theorem booting : t.booting = s.booting := by
  rw [State.booting, State.booting, h.store]

theorem storedField (b : BankId) (r : FieldRef) :
    Machine.storedField t b r = Machine.storedField s b r := by
  cases b <;> simp only [Machine.storedField, bankOf, h.bank0, h.bank1]

end

end RingStands

/-! ### Bank exchanges (R93, R146) -/

theorem kept_setDet (s : State) (d : Quad Detector) : Kept s (s.setDet d) := ⟨rfl, raisedAfter_refl _⟩

theorem kept_recomputeMaxLen (s : State) : Kept s (recomputeMaxLen s) :=
  (kept_eachChannel (fun _ _ => (kept_noteActive ..).trans (kept_noteActive ..)) s).trans (kept_setDet ..)

/-- R146: behind its steps 1 to 3 an exchange leaves what the stages leave. -/
theorem kept_exchangeBanks (s : State) : Kept (s.setTables (exchangedTables s)) (exchangeBanks s) :=
  ((kept_recomputeMains _).trans (kept_recomputeMaxLen _)).trans (kept_raise ..)

theorem exchangeBanks_store (s : State) : (exchangeBanks s).store = s.store := (kept_exchangeBanks s).store

theorem exchangeAt_store (t : Trigger) (s : State) : (exchangeAt t s).store = s.store := by
  unfold exchangeAt
  split
  · exact exchangeBanks_store s
  · rfl

/-! ### Markers (R36, R38, R41) -/

theorem ringStands_deliverFrame (s : State) : RingStands (exchangeAt .nextFrame s) (deliverFrame s) :=
  .ite ((RingStands.refl _).setFilm _ |>.raise ..) ((RingStands.refl _).setFilm _)

theorem ringStands_deliverReelStart (s : State) : RingStands s (deliverReelStart s) :=
  .ite (((RingStands.refl s).noteActive _).setFilm _) ((RingStands.refl s).noteActive _)

theorem ringStands_loadSpliceCounts (mask len : Nat) (s : State) : RingStands s (loadSpliceCounts mask len s) :=
  .of_units rfl

theorem ringStands_deliverSplice (s : State) : RingStands (exchangeAt .nextSplice s) (deliverSplice s) := by
  have guarded (x : Film) := ((RingStands.refl (exchangeAt .nextSplice s)).noteActive (.stream .spliceGuard)).setFilm x
  have noted (x : Film) := ((guarded x).noteActive (.stream .spliceLen)).noteActive (.stream .channelMask)
  exact (((noted _).trans (ringStands_loadSpliceCounts ..)).setTracker _).raise ..

/-- R35: a delivered marker exchanges the banks where a FRAME or SPLICE meets the trigger, and else leaves the ring
and the banks. -/
theorem deliverMarker_cases (m : Marker) (s : State) :
    RingStands s (deliverMarker m s) ∨ ∃ t, RingStands (exchangeAt t s) (deliverMarker m s) := by
  cases m with
  | none => exact .inl (.refl s)
  | perf => exact .inl (.refl s)
  | frame => exact .inr ⟨_, ringStands_deliverFrame s⟩
  | framePerf => exact .inr ⟨_, ringStands_deliverFrame s⟩
  | splice => exact .inr ⟨_, ringStands_deliverSplice s⟩
  | reelStart => exact .inl (ringStands_deliverReelStart s)
  | reelEnd => exact .inl (.refl s)

theorem deliverMarker_store (m : Marker) (s : State) : (deliverMarker m s).store = s.store := by
  rcases deliverMarker_cases m s with h | ⟨t, h⟩
  · exact h.store
  · exact h.store.trans (exchangeAt_store t s)

/-! ### The command unit (R157 to R159) -/

/-- The commands whose execution changes none of the stored units. -/
def plainCommand : CmdCode → Bool
  | .writeTable | .swapBanks | .cancelSwap | .startStream | .stopStream | .readTemplate | .loadTemplate
  | .storeProfile | .recallProfile | .softReset => false
  | _ => true

theorem cmdResume_units (p : List Word) (s : State) : storedUnits (cmdResume p s) = storedUnits s := by
  unfold cmdResume
  split
  · split <;> rfl
  · rfl

theorem forceDefectOf_units (w : Word) (s : State) : storedUnits (forceDefectOf w s) = storedUnits s := by
  unfold forceDefectOf
  dsimp only
  split
  · rfl
  · split <;> rfl

/-- R159: the plain commands leave the stored units. -/
theorem runCommand_plain {c : CmdCode} (h : plainCommand c = true) (p : List Word) (s : State) :
    storedUnits (runCommand c p s) = storedUnits s := by
  cases c with
  | queryStatus => simp only [runCommand, cmdQueryStatus]; split <;> (try split) <;> rfl
  | readCounters => simp only [runCommand, cmdReadCounters]; split <;> rfl
  | clearCounters => simp only [runCommand, cmdClearCounters]; split <;> rfl
  | readTable => simp only [runCommand, cmdReadTable]; split <;> (try split) <;> rfl
  | resume => exact cmdResume_units p s
  | setFrameTag => simp only [runCommand, cmdSetFrameTag]; split <;> (try split) <;> rfl
  | forceDefect =>
    simp only [runCommand, cmdForceDefect]
    split
    · exact forceDefectOf_units _ s
    · rfl
  | readLog => simp only [runCommand, cmdReadLog]; split <;> (try split) <;> rfl
  | setEventMask => simp only [runCommand, cmdSetEventMask]; split <;> rfl
  | readEventSummary => simp only [runCommand, cmdReadEventSummary]; split <;> rfl
  | ackFault => simp only [runCommand, cmdAckFault]; split <;> rfl
  | _ => cases h

section

variable {P : State → Prop} (hP : OnStored P)
  (run : ∀ (c : CmdCode) (p : List Word) (s : State), s.booting = false → P s → P (runCommand c p s))

include hP run

/-- R158: a closed message is discarded, refused or executed. -/
theorem closeMessage_keeps (a : Assembly) (sumOk : Bool) {s : State} (h : P s) : P (closeMessage a sumOk s) := by
  unfold closeMessage
  split
  · exact hP h rfl
  split
  · exact hP h rfl
  split
  · exact hP h rfl
  split
  · exact hP h rfl
  split
  · exact hP h rfl
  split
  · exact hP h rfl
  · next hb => exact run _ _ _ (by simpa using hb) h

theorem commandStep_keeps (c : CmdCode) (p : List Word) {s : State} (h : P s) : P (commandStep c p s) := by
  unfold commandStep
  split
  · exact closeMessage_keeps hP run _ _ (hP h rfl)
  · exact h

omit run in
theorem takeHead_keeps (w : Word) {s : State} (h : P s) : P (takeHead w s) := by
  unfold takeHead
  dsimp only
  split <;> exact hP h rfl

omit run in
theorem takeBody_keeps (w : Word) {s : State} (h : P s) : P (takeBody w s) := by
  unfold takeBody
  split <;> exact hP h rfl

theorem takeCheck_keeps (w : Word) {s : State} (h : P s) : P (takeCheck w s) := by
  unfold takeCheck
  split
  · exact hP h rfl
  · exact closeMessage_keeps hP run _ _ (hP h rfl)

/-- R157: what a control word, or the BAD indication, keeps. -/
theorem takeControl_keeps (f : Option LinkFrame) {s : State} (h : P s) : P (takeControl f s) := by
  unfold takeControl
  split
  · unfold takeBad
    split
    · exact h
    · exact hP h rfl
  · split
    · exact h
    · exact takeHead_keeps hP _ h
    · exact takeBody_keeps hP _ h
    · exact takeCheck_keeps hP run _ h

end

theorem egressStep_units (s : State) : storedUnits (egressStep s) = storedUnits s := by
  obtain ⟨w, t, c, e, h⟩ := egressStep_frame s
  rw [h]
  rfl

theorem messageSentStep_units (s : State) : storedUnits (messageSentStep s) = storedUnits s := by
  obtain ⟨t, c, e, h⟩ := messageSentStep_frame s
  rw [h]
  rfl

/-! ### One step -/

/-- A predicate on the stored units that every part of the commands' meanings keeps. -/
structure StagesKeep (P : State → Prop) : Prop where
  onStored : OnStored P
  marker : ∀ m s, P s → P (deliverMarker m s)
  slot : ∀ m c s, s.booting = false → P s → P (streamStep m c s)
  command : ∀ c p s, s.booting = false → P s → P (runCommand c p s)
  linkLost : ∀ s, P s → P (linkLostStep s)
  armedStart : ∀ m x s, s.booting = false → P s → P (armedStartStep m x s)
  perfMiss : ∀ s, P s → P (perfMissStep s)
  normalClose : ∀ ch s, P s → P (normalCloseStep ch s)
  retirementEnd : ∀ s, P s → P (retirementEndStep s)
  drainEnd : ∀ s, P s → P (drainEndStep s)
  exchange : ∀ t s, P s → P (exchangeAt t s)
  operationEnd : ∀ s, P s → P (s.setStore (endOperation s.store))
  hardReset : ∀ s, P s → P (hardValues s)
  bootDone : ∀ s, P s → P (bootDoneStep s)
  eraseEnd : ∀ s, P s → P (eraseEndStep s)
  storeDone : ∀ s, P s → P (storeDoneStep s)
  recallDone : ∀ s, P s → P (recallDoneStep s)

namespace StagesKeep

variable {P : State → Prop} (k : StagesKeep P) {s : State} (h : P s)

include k h

/-- R6 to R8: step 5 of an arrival. -/
theorem updateLink (c : SlotClass) (before : StreamState) : P (updateLink c before s) := by
  unfold Machine.updateLink
  split
  · apply k.linkLost
    dsimp only
    split <;> exact k.onStored h rfl
  · unfold linkRestoredStep
    split <;> exact k.onStored h rfl

/-- R5: the five steps of a served slot and the departing frame. -/
theorem servedArrival (f : Option LinkFrame) (hb : s.booting = false) : P (servedArrival f s) := by
  unfold Machine.servedArrival
  dsimp only
  refine k.onStored ?_ (egressStep_units _)
  apply k.updateLink
  apply takeControl_keeps k.onStored k.command
  have counted : storedUnits (if markerError f then countMarkerError (classify f s) else classify f s) =
      storedUnits s := by
    unfold classify
    split <;> split <;> rfl
  have store : (deliver f (classify f s)).store = s.store :=
    (deliverMarker_store ..).trans (RingStands.of_units counted).store
  apply k.slot
  · rw [State.booting, store]; exact hb
  · exact k.marker _ _ (k.onStored h counted)

theorem arrivalStep (bits : BitVec 127) : P (arrivalStep bits s) := by
  unfold Machine.arrivalStep
  split
  · exact k.onStored h rfl
  split
  · exact k.onStored h rfl
  split
  · unfold bootArrival
    refine k.onStored ?_ (egressStep_units _)
    apply takeControl_keeps k.onStored k.command
    unfold classify
    dsimp only
    split <;> exact k.onStored h rfl
  · next hb => exact k.servedArrival h _ (by simpa using hb)

theorem assertReset : P (assertReset s) := by
  unfold Machine.assertReset
  split
  · exact h
  split
  · exact k.onStored (k.operationEnd _ h) rfl
  · exact k.onStored h rfl

theorem releaseReset : P (releaseReset s) := by
  unfold Machine.releaseReset
  split
  · dsimp only
    split
    · exact k.hardReset _ (k.onStored h rfl)
    · exact k.onStored h rfl
  · exact h

theorem powerUpStep : P (powerUpStep s) := by
  have reset := k.hardReset _ (k.onStored (t := s.setPower ⟨true, s.power.resetInput, .power, .idle, .normal⟩) h rfl)
  unfold Machine.powerUpStep
  dsimp only
  split
  · exact k.operationEnd _ reset
  · exact reset

theorem powerDownStep : P (powerDownStep s) :=
  k.onStored (k.operationEnd _ h) rfl

omit k in
/-- A row that acts only in some states. -/
theorem actWhen_keeps {p : Bool} {f : State → State} (hf : p = true → P (f s)) :
    ∃ t, actWhen p f s = .next t ∧ P t := by
  refine ⟨_, rfl, ?_⟩
  split
  · next hp => exact hf hp
  · exact h

omit k h in
/-- R168: a command of a message is the one its code and payload spell. -/
theorem eq_instrOfCommand {i : Instr} {c : CmdCode} {p : List Word} (h : i.message = some (c, p)) :
    i = instrOfCommand c p := by
  cases i <;> cases h <;> rfl

omit k h in
theorem serving_not_booting (hv : s.serving = true) : s.booting = false := by
  simp only [State.serving, Bool.and_eq_true, Bool.not_eq_true'] at hv
  exact hv.2

/-- Every command answers a next state, and keeps what the stages keep. -/
theorem exec (i : Instr) : ∃ t, exec i s = .next t ∧ P t := by
  rcases hm : i.message with _ | ⟨c, p⟩
  · cases i with
    | arrival bits => exact ⟨_, rfl, k.arrivalStep h bits⟩
    | armedStartTaken m x => exact actWhen_keeps h fun hv => k.armedStart m x s (serving_not_booting hv) h
    | perfMiss => exact actWhen_keeps h fun _ => k.perfMiss s h
    | normalClose ch => exact actWhen_keeps h fun _ => k.normalClose ch s h
    | retirementEnd => exact actWhen_keeps h fun _ => k.retirementEnd s h
    | drainEnd => exact actWhen_keeps h fun _ => k.drainEnd s h
    | linkLost => exact actWhen_keeps h fun _ => k.linkLost s h
    | pendingExchange t => exact actWhen_keeps h fun _ => k.exchange t s h
    | messageSent => exact actWhen_keeps h fun _ => k.onStored h (messageSentStep_units s)
    | hardReset => exact ⟨_, rfl, k.assertReset h⟩
    | powerUp => exact actWhen_keeps h fun _ => k.powerUpStep h
    | hardResetRelease => exact ⟨_, rfl, k.releaseReset h⟩
    | bootRecallDone => exact actWhen_keeps h fun _ => k.bootDone s h
    | storeEraseEnd => exact actWhen_keeps h fun _ => k.eraseEnd s h
    | storeDone => exact actWhen_keeps h fun _ => k.storeDone s h
    | recallDone => exact actWhen_keeps h fun _ => k.recallDone s h
    | powerDown => exact ⟨_, rfl, k.powerDownStep h⟩
    | _ => cases hm
  · rw [eq_instrOfCommand hm, exec_command]
    exact ⟨_, rfl, commandStep_keeps k.onStored k.command c p h⟩

omit h in
/-- A step keeps what every part of the commands' meanings keeps. -/
theorem stepKeeps : StepKeeps P := by
  intro s t h hs
  unfold step at hs
  split at hs
  · cases hs; exact h
  · next i rest _ =>
    obtain ⟨u, hu, kept⟩ := k.exec (k.onStored (t := s.setPending rest) h rfl) i
    rw [hu] at hs
    cases hs
    exact kept

end StagesKeep

end Sys2Proof.StreamRing
end

section
/-! The ring in each stream state, its serials and the bank states (R19 to R33, R140 to R149): every step keeps them. -/

namespace Sys2Proof.StreamRing

open Sys2Proof Sys2Proof.Machine Sys2Proof.Safety Sys2Proof.SampleLink

/-! ### Fields in range (R137 to R139, R143) -/

/-- Every field of a bank that passes its check lies within its range. -/
def InRange (t : TableSetOf Field) : Prop :=
  ∀ r, fieldOk (t.field r) = true → (fieldSpec r).lo ≤ (t.field r).val.toNat ∧ (t.field r).val.toNat ≤ (fieldSpec r).hi

theorem tablesInRange_iff {s : State} : TablesInRange s ↔ InRange s.tables.bank0 ∧ InRange s.tables.bank1 :=
  ⟨fun h => ⟨fun r => h .b0 r, fun r => h .b1 r⟩, fun h b r => by
    cases b
    · exact h.1 r
    · exact h.2 r⟩

/-- R150: a read of a field in range gives a value in range. -/
theorem setting_inRange {s : State} (h : TablesInRange s) (b : BankId) (r : FieldRef) :
    (fieldSpec r).lo ≤ setting s b r ∧ setting s b r ≤ (fieldSpec r).hi := by
  obtain ⟨lo, hi, _⟩ := default_inRange r
  unfold setting fieldRead
  split
  · next ok => exact h b r ok
  · exact ⟨lo, hi⟩

/-- R29, R137: the lookahead lies within 64 to 1,024. -/
theorem lookahead_inRange {s : State} (h : TablesInRange s) (b : BankId) :
    64 ≤ setting s b (.stream .lookahead) ∧ setting s b (.stream .lookahead) ≤ 1024 :=
  setting_inRange h b (.stream .lookahead)

/-- R143: a clamped value is the nearest number of its field's range. -/
theorem clampField_toNat (r : FieldRef) (v : BitVec 32) :
    (clampField (fieldSpec r) v).toNat = max (fieldSpec r).lo (min (fieldSpec r).hi v.toNat) := by
  obtain ⟨lo, hi, fits⟩ := default_inRange r
  rw [clampField, clampNat, BitVec.toNat_ofNat, Nat.mod_eq_of_lt (by omega)]

/-- R143: a field written with a clamped value is in range. -/
theorem clampField_inRange (r : FieldRef) (v : BitVec 32) :
    (fieldSpec r).lo ≤ (freshField (clampField (fieldSpec r) v)).val.toNat ∧
      (freshField (clampField (fieldSpec r) v)).val.toNat ≤ (fieldSpec r).hi := by
  obtain ⟨lo, hi, _⟩ := default_inRange r
  have value : (freshField (clampField (fieldSpec r) v)).val.toNat =
      max (fieldSpec r).lo (min (fieldSpec r).hi v.toNat) := clampField_toNat r v
  omega

/-- R153: a bank filled with an image holds the image's values with fresh parity. -/
theorem field_freshBank (t : TableSetOf (BitVec 32)) (r : FieldRef) :
    (freshBank t).field r = freshField (t.field r) := by
  cases r <;> simp [freshBank, TableSetOf.field]

/-- R143: each field of a clamped image is clamped to its range. -/
theorem field_clampImage (t : TableSetOf (BitVec 32)) (r : FieldRef) :
    (clampImage t).field r = clampField (fieldSpec r) (t.field r) := by
  cases r <;> simp [clampImage, TableSetOf.field, fieldSpec]

theorem inRange_clampImage (t : TableSetOf (BitVec 32)) : InRange (freshBank (clampImage t)) := by
  intro r _
  rw [field_freshBank, field_clampImage]
  exact clampField_inRange r _

theorem inRange_default : InRange (freshBank defaultImage) := fun r => tablesInRange_reset .b0 r

/-- R187: both banks are filled within range at the end of a boot recalls. -/
theorem inRange_bootImage (x : Slot) : InRange (freshBank (bootImage x)) := by
  unfold bootImage
  split
  · exact inRange_clampImage _
  · exact inRange_default

/-- R168: two words carry one value. -/
theorem valuesOf_length (ws : List Word) : (valuesOf ws).length = ws.length / 2 := by
  induction ws using valuesOf.induct with
  | case1 lo hi rest ih => simp only [valuesOf, List.length_cons, ih]; omega
  | case2 ws h =>
    match ws, h with
    | [], _ => rfl
    | [_], _ => simp [valuesOf]
    | lo :: hi :: rest, h => exact absurd rfl (h lo hi rest)

/-- R142, R143: the fields of a written record are those of the message, clamped. -/
theorem clampRecord_getD {table : TableCode} {vs : List (BitVec 32)} {sp : FieldSpec} {i : Nat}
    (hs : (recordSpecs table)[i]? = some sp) (hv : i < vs.length) :
    (clampRecord table vs).getD i 0 = clampField sp vs[i] := by
  simp [clampRecord, List.getD_eq_getElem?_getD, List.getElem?_zipWith, hs, hv]

/-- R137 to R139: the range of a field stands in its table at its place. -/
theorem recordSpecs_fieldPlace (r : FieldRef) :
    (recordSpecs (fieldPlace r).1)[(fieldPlace r).2.2]? = some (fieldSpec r) := by
  cases r <;> simp [fieldPlace, recordSpecs, fieldSpec]

/-- R142: a record's write leaves a field, or stores the value at its place with fresh parity. -/
theorem field_writeRecord (table : TableCode) (ix : Channel) (vs : List (BitVec 32)) (t : TableSetOf Field)
    (r : FieldRef) : (writeRecord table ix vs t).field r = t.field r ∨
      ((fieldPlace r).1 = table ∧
        (writeRecord table ix vs t).field r = freshField (vs.getD (fieldPlace r).2.2 0)) := by
  cases table with
  | stream =>
    cases r with
    | stream f => exact .inr ⟨rfl, by simp [writeRecord, TableSetOf.field, fieldPlace]⟩
    | chan ch f => exact .inl rfl
    | gain ch i => exact .inl rfl
  | channel =>
    cases r with
    | stream f => exact .inl rfl
    | chan ch f =>
      by_cases e : ch = ix
      · exact .inr ⟨rfl, by simp [writeRecord, TableSetOf.field, fieldPlace, e]⟩
      · exact .inl (by simp [writeRecord, TableSetOf.field, Quad.get_set, e])
    | gain ch i => exact .inl rfl
  | gain =>
    cases r with
    | stream f => exact .inl rfl
    | chan ch f => exact .inl rfl
    | gain ch i =>
      by_cases e : ch = ix
      · exact .inr ⟨rfl, by simp [writeRecord, TableSetOf.field, fieldPlace, e]⟩
      · exact .inl (by simp [writeRecord, TableSetOf.field, Quad.get_set, e])

/-- R142: a field's place lies within its table's record. -/
theorem fieldPlace_lt (r : FieldRef) : (fieldPlace r).2.2 < fieldCount (fieldPlace r).1 := by
  cases r with
  | stream f => exact f.idx.isLt
  | chan _ f => exact f.idx.isLt
  | gain _ i => exact i.isLt

/-- R142, R143: a record written with clamped values is in range. -/
theorem inRange_writeRecord {t : TableSetOf Field} (h : InRange t) (table : TableCode) (ix : Channel)
    {vs : List (BitVec 32)} (hv : vs.length = fieldCount table) :
    InRange (writeRecord table ix (clampRecord table vs) t) := by
  intro r ok
  rcases field_writeRecord table ix (clampRecord table vs) t r with stands | ⟨rfl, written⟩
  · rw [stands] at ok ⊢
    exact h r ok
  · rw [written, clampRecord_getD (recordSpecs_fieldPlace r) (hv ▸ fieldPlace_lt r)]
    exact clampField_inRange r _

/-- R142: a record of the standby bank is written. -/
theorem tablesInRange_writeStandby {s : State} (h : TablesInRange s) (table : TableCode) (ix : Channel)
    {vs : List (BitVec 32)} (hv : vs.length = fieldCount table) :
    TablesInRange (s.setTables (writeStandby table ix (clampRecord table vs) s.tables)) := by
  obtain ⟨h0, h1⟩ := tablesInRange_iff.1 h
  rw [tablesInRange_iff]
  simp only [State.setTables_tables, writeStandby, standbyBank]
  cases s.tables.active
  · exact ⟨h0, inRange_writeRecord h1 table ix hv⟩
  · exact ⟨inRange_writeRecord h0 table ix hv, h1⟩

/-! ### What the invariants rest on -/

namespace RingStands

variable {s t : State} (h : RingStands s t)

include h

theorem serials : t.ring.map (fun r => r.serial) = s.ring.map (fun r => r.serial) := by
  have names := congrArg (List.map Prod.fst) h.ring
  rwa [List.map_map, List.map_map] at names

theorem length : t.ring.length = s.ring.length := by
  simpa using congrArg List.length h.ring

/-- R33: the records of a bank are told by their names. -/
theorem bankCount (b : BankId) : t.bankCount b = s.bankCount b := by
  have names := congrArg (List.countP fun k => k.2.2.2.2.1 == b) h.ring
  rwa [List.countP_map, List.countP_map] at names

theorem tablesInRange (hs : TablesInRange s) : TablesInRange t := by
  intro b r
  rw [h.storedField b r]
  exact hs b r

end RingStands

/-- What holds of the ring and the banks in every stream state (R21, R29, R32, R137, R140, R141, R185). -/
structure Orderly (s : State) : Prop where
  lookahead : 64 ≤ s.stream.lEff ∧ s.stream.lEff ≤ 1024
  serials : SerialsKept s
  banks : BanksKept s
  tables : TablesInRange s

/-- What the stream state says of the ring, of an armed start and of a boot recalls (R19, R22, R25, R29, R187). -/
structure Fitted (s : State) : Prop where
  fits : ringFits s.stream.state s.ring.length s.stream.lEff
  armed : s.stream.armed = true → s.stream.state = .idle
  boots : s.booting = true → s.stream.state = .idle

/-- The invariant of the statement, in its two parts. -/
structure RingKept (s : State) : Prop extends Orderly s, Fitted s

theorem ringKept_iff {s : State} : RingKept s ↔ StreamKept s ∧ SerialsKept s ∧ BanksKept s :=
  ⟨fun h => ⟨⟨h.lookahead, h.fits, h.armed, h.boots, h.tables⟩, h.serials, h.banks⟩,
    fun ⟨⟨look, fits, armed, boots, tables⟩, serials, banks⟩ => ⟨⟨look, serials, banks, tables⟩, ⟨fits, armed, boots⟩⟩⟩

theorem SerialsKept.stands {s t : State} (k : RingStands s t) (h : SerialsKept s) : SerialsKept t := by
  rw [SerialsKept, k.serials, k.length, k.stream]
  exact h

theorem BanksKept.stands {s t : State} (k : RingStands s t) (h : BanksKept s) : BanksKept t := by
  rw [BanksKept, k.other, k.active, k.bankCount, k.pendingX, k.store]
  exact h

theorem Orderly.stands {s t : State} (h : Orderly s) (k : RingStands s t) : Orderly t :=
  ⟨by rw [k.stream]; exact h.lookahead, SerialsKept.stands k h.serials, BanksKept.stands k h.banks,
    k.tablesInRange h.tables⟩

theorem Fitted.stands {s t : State} (h : Fitted s) (k : RingStands s t) : Fitted t :=
  ⟨by rw [k.stream, k.length]; exact h.fits, by rw [k.stream]; exact h.armed,
    by rw [k.booting, k.stream]; exact h.boots⟩

theorem RingKept.stands {s t : State} (h : RingKept s) (k : RingStands s t) : RingKept t :=
  ⟨h.toOrderly.stands k, h.toFitted.stands k⟩

/-! ### Bank exchanges (R140, R141, R146) -/

theorem bankId_opposite (b : BankId) : b.opposite.opposite = b := by cases b <;> rfl

/-- R140, R146: after an exchange the bank that was active is RETIRING exactly where it tags a record. -/
theorem banksKept_exchanged {s : State} (h : BanksKept s) (ho : s.tables.other = .standby) :
    BanksKept (s.setTables (exchangedTables s)) := by
  obtain ⟨_, _, recalls⟩ := h
  have count : (s.setTables (exchangedTables s)).bankCount (s.setTables (exchangedTables s)).tables.active.opposite =
      s.bankCount s.tables.active := by
    simp [exchangedTables, bankId_opposite, State.bankCount]
  refine ⟨?_, fun hp => absurd rfl hp, fun i hi => absurd (recalls i hi) (by rw [ho]; decide)⟩
  rw [count]
  by_cases hc : s.bankCount s.tables.active > 0 <;> simp [exchangedTables, hc]

theorem orderly_exchangeBanks {s : State} (h : Orderly s) (ho : s.tables.other = .standby) :
    Orderly (exchangeBanks s) := by
  have exchanged : Orderly (s.setTables (exchangedTables s)) :=
    ⟨h.lookahead, h.serials, banksKept_exchanged h.banks ho, h.tables⟩
  exact exchanged.stands (.of_kept (kept_exchangeBanks s))

/-- R146: an exchange leaves the stream and the ring. -/
theorem fitted_exchangeBanks {s : State} (h : Fitted s) : Fitted (exchangeBanks s) := by
  have exchanged : Fitted (s.setTables (exchangedTables s)) := ⟨h.fits, h.armed, h.boots⟩
  exact exchanged.stands (.of_kept (kept_exchangeBanks s))

/-- R141: an exchange is pending only beside a STANDBY bank. -/
theorem orderly_exchangeAt {s : State} (h : Orderly s) (t : Trigger) : Orderly (exchangeAt t s) := by
  unfold exchangeAt
  split
  · next hp => exact orderly_exchangeBanks h (h.banks.2.1 (by simp [hp]))
  · exact h

theorem ringKept_exchangeAt {s : State} (h : RingKept s) (t : Trigger) : RingKept (exchangeAt t s) := by
  refine ⟨orderly_exchangeAt h.toOrderly t, ?_⟩
  unfold exchangeAt
  split
  · exact fitted_exchangeBanks h.toFitted
  · exact h.toFitted

theorem ringKept_deliverMarker {s : State} (h : RingKept s) (m : Marker) : RingKept (deliverMarker m s) := by
  rcases deliverMarker_cases m s with k | ⟨t, k⟩
  · exact h.stands k
  · exact (ringKept_exchangeAt h t).stands k

/-! ### The stream state (R27) -/

/-- The stream state replaced. -/
def withState (st : StreamState) (s : State) : State := s.setStream { s.stream with state := st }

/-- R32, R140, R141: the stream state says nothing of the serials and the banks. -/
theorem Orderly.withState {s : State} (h : Orderly s) (st : StreamState) : Orderly (withState st s) :=
  ⟨h.lookahead, h.serials, h.banks, h.tables⟩

theorem RingStands.setState {s t : State} (h : RingStands s t) (st : StreamState) :
    RingStands (withState st s) (withState st t) :=
  ⟨by simp [withState, h.stream], h.ring, h.bank0, h.bank1, h.active, h.other, h.pendingX, h.store⟩

theorem ringStands_enterState (st : StreamState) (s : State) : RingStands (withState st s) (enterState st s) :=
  .of_units rfl

/-- R25: the entry to DRAINING closes contexts. -/
theorem ringStands_enterDraining (s : State) : RingStands (withState .draining s) (enterDraining s) :=
  (ringStands_enterState .draining s).trans (.of_kept (closing_drainDetector _).toKept)

/-! ### Releases (R26, R31, R149) -/

/-- R32: the serials of a ring without its oldest record. -/
theorem serials_tail {ring : List FrameRecord} {r : FrameRecord} {next : Serial}
    (h : (r :: ring).map (fun r => r.serial) = (List.range (ring.length + 1)).map
      (fun i => next - BitVec.ofNat 32 (ring.length + 1) + BitVec.ofNat 32 i)) :
    ring.map (fun r => r.serial) = (List.range ring.length).map
      (fun i => next - BitVec.ofNat 32 ring.length + BitVec.ofNat 32 i) := by
  rw [List.range_succ_eq_map, List.map_cons, List.map_cons, List.map_map] at h
  rw [(List.cons.inj h).2]
  refine List.map_congr_left fun i _ => ?_
  simp only [Function.comp, Nat.succ_eq_add_one, BitVec.ofNat_add]
  ring

/-- R140, R149: a release ends the retirement with the last record of the bank. -/
theorem banksKept_afterRelease {s : State} {r : FrameRecord} {rest : List FrameRecord} (h : BanksKept s)
    (hr : s.ring = r :: rest) (hiss : Quad Hiss) : BanksKept (afterRelease r rest hiss s) := by
  obtain ⟨retiring, pending, recalls⟩ := h
  have fewer : rest.countP (fun r => r.bank == s.tables.active.opposite) ≤ s.bankCount s.tables.active.opposite := by
    rw [State.bankCount, hr, List.countP_cons]
    exact Nat.le_add_right ..
  have count : (afterRelease r rest hiss s).bankCount s.tables.active.opposite =
      rest.countP (fun r => r.bank == s.tables.active.opposite) := by
    rw [State.bankCount, afterRelease_ring]
  have stays (ho : s.tables.other ≠ .retiring) : otherAfter rest s = s.tables.other := if_neg fun hc => ho hc.1
  refine ⟨?_, fun hp => ?_, fun i hi => ?_⟩
  · rw [afterRelease_other, afterRelease_active, count]
    by_cases ho : s.tables.other = .retiring
    · by_cases hz : rest.countP (fun r => r.bank == s.tables.active.opposite) = 0
      · rw [otherAfter, if_pos ⟨ho, hz⟩, hz]; decide
      · rw [otherAfter, if_neg fun hc => hz hc.2]
        exact ⟨fun _ => Nat.pos_of_ne_zero hz, fun _ => ho⟩
    · rw [stays ho]
      exact ⟨fun hc => absurd hc ho, fun hc => absurd (retiring.2 (Nat.lt_of_lt_of_le hc fewer)) ho⟩
  · rw [afterRelease_pendingX] at hp
    rw [afterRelease_other, stays (by rw [pending hp]; decide), pending hp]
  · rw [afterRelease_store] at hi
    rw [afterRelease_other, stays (by rw [recalls i hi]; decide), recalls i hi]

/-- R31: a release of the oldest record. -/
theorem orderly_release {s : State} {r : FrameRecord} {rest : List FrameRecord} (h : Orderly s)
    (hr : s.ring = r :: rest) : Orderly (release s) ∧ (release s).ring.length = rest.length ∧
      (release s).stream = { s.stream with state :=
        if s.stream.state = .draining ∧ rest = [] then .idle else s.stream.state } ∧
      (release s).store = s.store := by
  obtain ⟨hiss, kept⟩ := kept_release hr
  have stands := RingStands.of_kept kept
  have serials := h.serials
  rw [SerialsKept, hr] at serials
  have after : Orderly (afterRelease r rest hiss s) := by
    refine ⟨by simpa using h.lookahead, ?_, banksKept_afterRelease h.banks hr hiss, fun b f => ?_⟩
    · rw [SerialsKept, afterRelease_ring, afterRelease_stream]
      exact serials_tail serials
    · have field : storedField (afterRelease r rest hiss s) b f = storedField s b f := by
        cases b <;> simp [storedField, bankOf]
      rw [field]
      exact h.tables b f
  exact ⟨after.stands stands, by rw [stands.length, afterRelease_ring], by rw [kept.stream, afterRelease_stream],
    by rw [kept.store, afterRelease_store]⟩

/-- R26: a release in DRAINING leaves a record less, and the last one leaves IDLE. -/
theorem ringKept_release_draining {s : State} (h : RingKept s) (hd : s.stream.state = .draining) :
    RingKept (release s) := by
  have fits := h.fits
  rw [hd] at fits
  obtain ⟨r, rest, hr⟩ := List.exists_cons_of_length_pos fits.1
  obtain ⟨after, length, stream, store⟩ := orderly_release h.toOrderly hr
  have unarmed : s.stream.armed = true → False := fun ha => absurd (h.armed ha) (by rw [hd]; decide)
  have unbooting : (release s).booting = true → False := fun hb => by
    rw [State.booting, store] at hb
    exact absurd (h.boots hb) (by rw [hd]; decide)
  have records : rest.length + 1 ≤ s.stream.lEff := by simpa [hr] using fits.2
  refine ⟨after, ?_, fun ha => (unarmed (by rwa [stream] at ha)).elim, fun hb => (unbooting hb).elim⟩
  rw [stream, length, hd]
  by_cases hz : rest = []
  · simp [ringFits, hz]
  · rw [if_neg fun hc => hz hc.2]
    exact ⟨List.length_pos_of_ne_nil hz, by simp only; omega⟩

/-! ### Admissions (R22, R23, R30) -/

/-- R32: the serials of a ring with a record more. -/
theorem serials_append {ring : List FrameRecord} {r : FrameRecord} {next : Serial} (hr : r.serial = next)
    (h : ring.map (fun r => r.serial) = (List.range ring.length).map
      (fun i => next - BitVec.ofNat 32 ring.length + BitVec.ofNat 32 i)) :
    (ring ++ [r]).map (fun r => r.serial) = (List.range (ring.length + 1)).map
      (fun i => next + 1 - BitVec.ofNat 32 (ring.length + 1) + BitVec.ofNat 32 i) := by
  have base : next + 1 - BitVec.ofNat 32 (ring.length + 1) = next - BitVec.ofNat 32 ring.length := by
    rw [BitVec.ofNat_add]; bv_omega
  rw [base, List.map_append, h, List.range_succ, List.map_append, List.map_cons, List.map_nil, List.map_cons,
    List.map_nil, hr, BitVec.sub_add_cancel]

/-- R30: an admission adds a record of the active bank with the next serial. -/
theorem orderly_admitRecord {s : State} (h : Orderly s) (m : Marker) (stamp : BitVec 16)
    (samples : Option (Quad Sample)) : Orderly (admitRecord m stamp samples s) ∧
      (admitRecord m stamp samples s).ring.length = s.ring.length + 1 ∧
      (admitRecord m stamp samples s).stream = { s.stream with nextSerial := s.stream.nextSerial + 1 } ∧
      (admitRecord m stamp samples s).store = s.store := by
  obtain ⟨x, kept⟩ := kept_admission m stamp samples s
  have names := admittedRecord_names m stamp samples s
  set r := admittedRecord m stamp samples s
  simp only [Prod.mk.injEq] at names
  obtain ⟨serial, -, -, -, bank, -⟩ := names
  have stands := RingStands.of_kept kept
  have count : (placed samples s r x).bankCount s.tables.active.opposite = s.bankCount s.tables.active.opposite := by
    have other : (r.bank == s.tables.active.opposite) = false := by rw [bank]; cases s.tables.active <;> rfl
    simp [State.bankCount, other]
  have tables : (placed samples s r x).tables = s.tables := by simp [placed, placeInRing, beforeRecord_eq]
  have after : Orderly (placed samples s r x) := by
    refine ⟨by simpa using h.lookahead, ?_, ?_, fun b f => ?_⟩
    · rw [SerialsKept, placed_ring, placed_stream, List.length_append]
      exact serials_append serial h.serials
    · rw [BanksKept, tables, count, placed_store]
      exact h.banks
    · rw [storedField, tables]
      exact h.tables b f
  exact ⟨after.stands stands, by rw [stands.length, placed_ring]; simp, by rw [kept.stream, placed_stream],
    by rw [kept.store, placed_store]⟩

/-- R22, R23: what follows an admission: DRAINING behind a REEL_END, RUNNING where the ring is full in PRIMING,
and else nothing. -/
theorem afterAdmission_cases (m : Marker) (s : State) :
    RingStands (withState .draining s) (afterAdmission m s) ∨
    (s.stream.state = .priming ∧ s.ring.length = s.stream.lEff ∧
      RingStands (withState .running s) (afterAdmission m s)) ∨
    (¬ (s.stream.state = .priming ∧ s.ring.length = s.stream.lEff) ∧ RingStands s (afterAdmission m s)) := by
  have filled (u : State) (hu : RingStands s u) :
      (s.stream.state = .priming ∧ s.ring.length = s.stream.lEff ∧ RingStands (withState .running s) (checkRunning u)) ∨
      (¬ (s.stream.state = .priming ∧ s.ring.length = s.stream.lEff) ∧ RingStands s (checkRunning u)) := by
    have full : (u.stream.state = .priming ∧ u.occupancy = u.stream.lEff) ↔
        (s.stream.state = .priming ∧ s.ring.length = s.stream.lEff) := by
      rw [State.occupancy, hu.stream, hu.length]
    unfold checkRunning
    split
    · next hf => exact .inl ⟨(full.1 hf).1, (full.1 hf).2, (hu.setState _).trans (ringStands_enterState ..)⟩
    · next hf => exact .inr ⟨fun hc => hf (full.2 hc), hu⟩
  unfold afterAdmission
  split
  · dsimp only
    have noted := (RingStands.refl s).noteActive (.stream .stopMode)
    split
    · exact .inl ((noted.setState _).trans (ringStands_enterDraining _))
    · exact .inr (filled _ noted)
  · exact .inr (filled s (.refl s))

end Sys2Proof.StreamRing
end

section
/-! Stream starts, slots, commands and resets, and what they keep of the ring and the banks. -/

namespace Sys2Proof.StreamRing

open Sys2Proof Sys2Proof.Machine Sys2Proof.Safety Sys2Proof.SampleLink

/-- In a reel no start is armed and no boot recall runs. -/
theorem RingKept.of_reel {s : State} (h : Orderly s) (ha : s.stream.armed = false) (hb : s.booting = false)
    (fits : ringFits s.stream.state s.ring.length s.stream.lEff) : RingKept s :=
  ⟨h, fits, fun hc => absurd (ha.symm.trans hc) nofun, fun hc => absurd (hb.symm.trans hc) nofun⟩

/-- R19: outside IDLE no start is armed. -/
theorem RingKept.unarmed {s : State} (h : RingKept s) (hs : s.stream.state ≠ .idle) : s.stream.armed = false := by
  by_contra hc
  exact hs (h.armed (by simpa using hc))

/-- R187: outside IDLE no boot recall runs. -/
theorem RingKept.unbooting {s : State} (h : RingKept s) (hs : s.stream.state ≠ .idle) : s.booting = false := by
  by_contra hc
  exact hs (h.boots (by simpa using hc))

/-- R22, R23, R30: an admission, and what follows it, in a ring with room for the record. -/
theorem ringKept_admitSlot {s : State} (h : Orderly s) (ha : s.stream.armed = false) (hb : s.booting = false)
    (hr : (s.stream.state = .priming ∧ s.ring.length < s.stream.lEff) ∨
      (s.stream.state = .running ∧ s.ring.length + 1 = s.stream.lEff))
    (m : Marker) (stamp : BitVec 16) (samples : Option (Quad Sample)) : RingKept (admitSlot m stamp samples s) := by
  obtain ⟨after, length, stream, store⟩ := orderly_admitRecord h m stamp samples
  unfold admitSlot
  set u := admitRecord m stamp samples s
  have unarmed : u.stream.armed = false := by rw [stream]; exact ha
  have unbooting : u.booting = false := by rw [State.booting, store]; exact hb
  have lookahead : u.stream.lEff = s.stream.lEff := by rw [stream]
  have state : u.stream.state = s.stream.state := by rw [stream]
  rcases afterAdmission_cases m u with k | ⟨_, full, k⟩ | ⟨unfilled, k⟩
  · refine (RingKept.of_reel (after.withState .draining) unarmed unbooting ?_).stands k
    change 1 ≤ u.ring.length ∧ u.ring.length ≤ u.stream.lEff
    omega
  · exact (RingKept.of_reel (after.withState .running) unarmed unbooting full).stands k
  · refine (RingKept.of_reel after unarmed unbooting ?_).stands k
    rw [state, length, lookahead] at unfilled ⊢
    rcases hr with ⟨hp, room⟩ | ⟨hr, full⟩
    · rw [hp] at unfilled ⊢
      have notFull : s.ring.length + 1 ≠ s.stream.lEff := fun hc => unfilled ⟨rfl, hc⟩
      change 1 ≤ s.ring.length + 1 ∧ s.ring.length + 1 < s.stream.lEff
      omega
    · rw [hr]
      exact full

/-! ### Stream starts (R19, R20) -/

/-- R20, R21: a stream start as far as the event of its new state. -/
def startBegun (s : State) : State :=
  let u := noteLookahead (exchangeAt .streamStart s)
  let v := u.setStream
    { u.stream with lEff := startLookahead (exchangeAt .streamStart s), nextSerial := 0, armed := false }
  enterState .priming (v.setLink { v.link with lastAccepted := Quad.all 0 })

/-- R20: the start actions of the detector and the canceller. -/
def startActed (m : Marker) (s : State) : State :=
  startCanceller (recomputeMaxLen (startDetector (spliceLoaded m s) (startBegun s)))

/-- R20: the start values of the tracker, the hiss reducer, the last outputs and the splice guard. -/
def startSettled (m : Marker) (s : State) : State :=
  let u := ((s.setTracker (enterAcquire s.tracker)).setHiss hissAtStart).setLastOut (Quad.all 0)
  if m = .splice then u else u.setFilm { u.film with guard := 0 }

theorem startStreamNow_eq (m : Marker) (s : State) : startStreamNow m s = startSettled m (startActed m s) := by
  delta startStreamNow startSettled startActed startBegun
  dsimp only

theorem kept_noteLookahead (s : State) : Kept s (noteLookahead s) := by
  unfold noteLookahead
  refine ((kept_noteActive s _).trans (kept_noteActive ..)).trans (kept_eachChannel (fun ch t => ?_) _)
  exact .ite ((kept_noteActive ..).trans (.ite ((kept_noteActive ..).trans (kept_noteActive ..)) (.refl _))) (.refl _)

theorem kept_startCanceller (s : State) : Kept s (startCanceller s) :=
  (kept_eachChannel (fun _ _ => kept_noteActive ..) s).trans (kept_setCanc ..)

theorem kept_startActed (m : Marker) (s : State) : Kept (startBegun s) (startActed m s) :=
  ((kept_setDet ..).trans (kept_recomputeMaxLen _)).trans (kept_startCanceller _)

theorem RingStands.setStream {s t : State} (h : RingStands s t) (x : Stream) :
    RingStands (s.setStream x) (t.setStream x) :=
  ⟨rfl, h.ring, h.bank0, h.bank1, h.active, h.other, h.pendingX, h.store⟩

theorem ringStands_begun (s : State) (l : Nat) (x : Link) : RingStands (s.setStream ⟨.priming, false, l, 0⟩)
    (enterState .priming
      ((s.setStream { s.stream with lEff := l, nextSerial := 0, armed := false }).setLink x)) := .of_units rfl

/-- R20, R21: what the start makes of the stream; the ring and the banks are left to its exchange. -/
theorem ringStands_startBegun (s : State) :
    RingStands ((exchangeAt .streamStart s).setStream
      ⟨.priming, false, startLookahead (exchangeAt .streamStart s), 0⟩) (startBegun s) := by
  unfold startBegun
  exact ((RingStands.of_kept (kept_noteLookahead _)).setStream _).trans (ringStands_begun ..)

theorem ringStands_startSettled (m : Marker) (s : State) : RingStands s (startSettled m s) :=
  .ite (.of_units rfl) (.of_units rfl)

theorem ringStands_startStreamNow (m : Marker) (s : State) :
    RingStands ((exchangeAt .streamStart s).setStream
      ⟨.priming, false, startLookahead (exchangeAt .streamStart s), 0⟩) (startStreamNow m s) := by
  rw [startStreamNow_eq]
  exact ((ringStands_startBegun s).trans (.of_kept (kept_startActed m s))).trans (ringStands_startSettled ..)

/-- R21, R29: the effective lookahead lies within 64 to 1,024. -/
theorem startLookahead_inRange {s : State} (h : TablesInRange s) :
    64 ≤ startLookahead s ∧ startLookahead s ≤ 1024 := by
  obtain ⟨lo, hi⟩ := lookahead_inRange h s.tables.active
  have least : activeSetting s (.stream .lookahead) ≤
      max (activeSetting s (.stream .lookahead))
        (max (max (channelTerm s .ch0) (channelTerm s .ch1)) (max (channelTerm s .ch2) (channelTerm s .ch3))) :=
    Nat.le_max_left ..
  exact ⟨Nat.le_min.2 ⟨by decide, lo.trans least⟩, Nat.min_le_left ..⟩

/-- R32: an empty ring holds serials for every next serial. -/
theorem serialsKept_nil {s : State} (h : s.ring = []) : SerialsKept s := by
  simp [SerialsKept, h]

/-- R20: a stream starts on an empty ring. -/
theorem orderly_startStreamNow {s : State} (h : Orderly s) (hr : s.ring = []) (m : Marker) :
    Orderly (startStreamNow m s) ∧ (startStreamNow m s).ring.length = 0 := by
  have exchanged := orderly_exchangeAt h .streamStart
  have ring : (exchangeAt .streamStart s).ring = [] := by
    unfold exchangeAt
    split
    · have length := (RingStands.of_kept (kept_exchangeBanks s)).length
      exact List.length_eq_zero_iff.1 (length.trans (by simp [hr]))
    · exact hr
  have stands := ringStands_startStreamNow m s
  have begun : Orderly ((exchangeAt .streamStart s).setStream
      ⟨.priming, false, startLookahead (exchangeAt .streamStart s), 0⟩) :=
    ⟨startLookahead_inRange exchanged.tables, serialsKept_nil ring, exchanged.banks, exchanged.tables⟩
  exact ⟨begun.stands stands, by rw [stands.length]; simp [ring]⟩

theorem ringKept_startAndAdmit {s : State} (h : RingKept s) (hi : s.stream.state = .idle) (hb : s.booting = false)
    (m : Marker) (stamp : BitVec 16) (x : Quad Sample) : RingKept (startAndAdmit m stamp x s) := by
  have fits := h.fits
  rw [hi] at fits
  obtain ⟨started, length⟩ := orderly_startStreamNow h.toOrderly (List.length_eq_zero_iff.1 fits) m
  have stands := ringStands_startStreamNow m s
  have stream : (startStreamNow m s).stream = ⟨.priming, false, startLookahead (exchangeAt .streamStart s), 0⟩ :=
    stands.stream
  refine ringKept_admitSlot started (by rw [stream]) ?_ (.inl ⟨by rw [stream], ?_⟩) m stamp (some x)
  · rw [stands.booting, State.booting, State.setStream_store, exchangeAt_store]
    exact hb
  · rw [length]
    exact Nat.lt_of_lt_of_le (by decide) started.lookahead.1

/-! ### Slots (R16) -/

theorem onStored_ringKept : OnStored RingKept := fun h hu => h.stands (.of_units hu)

theorem RingKept.raise {s : State} (h : RingKept s) (k : EventKind) (ch : Option Channel) (p : Option (BitVec 32)) :
    RingKept (raise k ch p s) := onStored_ringKept h rfl

theorem ringKept_arriveIdle {s : State} (h : RingKept s) (hi : s.stream.state = .idle) (hb : s.booting = false)
    (m : Marker) (c : SlotClass) : RingKept (arriveIdle m c s) := by
  cases c with
  | bad => exact h
  | idle => exact h
  | sample x =>
    have counted : RingKept (countSlot s) := onStored_ringKept h rfl
    have noted : Kept (countSlot s) (noteMarkerStart m (countSlot s)) := .ite (kept_noteActive ..) (.refl _)
    have stands := RingStands.of_kept noted
    have state : (noteMarkerStart m (countSlot s)).stream.state = .idle := by rw [stands.stream]; exact hi
    unfold arriveIdle
    dsimp only
    split
    · exact ringKept_startAndAdmit (counted.stands stands) state (stands.booting.trans hb) m _ x
    · exact onStored_ringKept (counted.stands stands) rfl

theorem ringKept_arrivePriming {s : State} (h : RingKept s) (hp : s.stream.state = .priming) (m : Marker)
    (c : SlotClass) : RingKept (arrivePriming m c s) := by
  have counted : RingKept (countSlot s) := onStored_ringKept h rfl
  have fits := h.fits
  rw [hp] at fits
  have notIdle : s.stream.state ≠ .idle := by rw [hp]; decide
  exact ringKept_admitSlot counted.toOrderly (h.unarmed notIdle) (h.unbooting notIdle) (.inl ⟨hp, fits.2⟩) m _ _

theorem ringKept_arriveRunning {s : State} (h : RingKept s) (hr : s.stream.state = .running) (m : Marker)
    (c : SlotClass) : RingKept (arriveRunning m c s) := by
  have counted : RingKept (countSlot s) := onStored_ringKept h rfl
  have full : s.ring.length = s.stream.lEff := by
    have fits := h.fits
    rwa [hr] at fits
  have notIdle : s.stream.state ≠ .idle := by rw [hr]; decide
  have lookahead := h.lookahead
  obtain ⟨r, rest, ring⟩ := List.exists_cons_of_length_pos (l := s.ring) (by omega)
  obtain ⟨after, length, stream, store⟩ := orderly_release counted.toOrderly (r := r) (rest := rest) ring
  have same : (release (countSlot s)).stream = s.stream := by
    have notDraining : (countSlot s).stream.state ≠ .draining := by
      change s.stream.state ≠ .draining
      rw [hr]
      decide
    rw [stream, if_neg fun hc => notDraining hc.1]
    rfl
  refine ringKept_admitSlot after ?_ ?_ (.inr ⟨?_, ?_⟩) m _ _
  · rw [same]; exact h.unarmed notIdle
  · rw [State.booting, store]; exact h.unbooting notIdle
  · rw [same]; exact hr
  · rw [length, same, ← full, ring, List.length_cons]

theorem ringKept_streamStep {s : State} (h : RingKept s) (hb : s.booting = false) (m : Marker) (c : SlotClass) :
    RingKept (streamStep m c s) := by
  have cleared : RingKept (s.setOut { s.out with slot := idleSlot }) := onStored_ringKept h rfl
  unfold streamStep
  dsimp only
  split
  · next hs => exact ringKept_arriveIdle cleared hs hb m c
  · next hs => exact ringKept_arrivePriming cleared hs m c
  · next hs => exact ringKept_arriveRunning cleared hs m c
  · next hs =>
    unfold arriveDraining
    split
    · exact ringKept_release_draining cleared hs
    · exact ringKept_release_draining cleared hs
    · exact ringKept_release_draining (s := countDrained _) (onStored_ringKept cleared rfl) hs

/-! ### The stop and the loss of the link (R7, R24, R25) -/

/-- R25: a reel enters DRAINING with the records it holds. -/
theorem ringKept_enterDraining {s : State} (h : RingKept s) (hr : inReel s.stream.state = true) :
    RingKept (enterDraining s) := by
  have reel := (inReel_iff _).1 hr
  have notIdle : s.stream.state ≠ .idle := by rcases reel with hs | hs <;> rw [hs] <;> decide
  have fits := h.fits
  have lookahead := h.lookahead
  have held : 1 ≤ s.ring.length ∧ s.ring.length ≤ s.stream.lEff := by
    rcases reel with hs | hs <;> rw [hs] at fits
    · exact ⟨fits.1, Nat.le_of_lt fits.2⟩
    · have full : s.ring.length = s.stream.lEff := fits
      omega
  exact (RingKept.of_reel (h.withState .draining) (h.unarmed notIdle) (h.unbooting notIdle) held).stands
    (ringStands_enterDraining s)

theorem ringKept_linkLostStep {s : State} (h : RingKept s) : RingKept (linkLostStep s) := by
  have gone : RingKept (linkGone s) := ⟨⟨h.lookahead, h.serials, h.banks, h.tables⟩, h.fits, nofun, h.boots⟩
  by_cases hl : s.link.cond = .good ∧ s.link.badCount = 256
  · rw [linkLostStep_eq hl.1 hl.2]
    split
    · next hr => exact ringKept_enterDraining gone hr
    · exact gone
  · rw [linkLostStep_of_not hl]
    exact h

/-! ### Rows of their own (R19, R26, R48, R149) -/

/-- R149: in a state with true bank states no retirement is due. -/
theorem retirementEndStep_of_banksKept {s : State} (h : BanksKept s) : retirementEndStep s = s :=
  if_neg fun hc => absurd (h.1.1 hc.1) (by rw [hc.2]; decide)

theorem ringKept_armedStartStep {s : State} (h : RingKept s) (hb : s.booting = false) (m : Marker) (x : Quad Sample) :
    RingKept (armedStartStep m x s) := by
  have counted : RingKept (countSlot (s.setOut { s.out with slot := idleSlot })) := onStored_ringKept h rfl
  unfold armedStartStep
  split
  · next hc =>
    simp only [Bool.and_eq_true, beq_iff_eq] at hc
    exact ringKept_startAndAdmit counted hc.2 hb m _ x
  · exact h

theorem ringKept_drainEndStep {s : State} (h : RingKept s) : RingKept (drainEndStep s) := by
  unfold drainEndStep
  split
  · next hc =>
    simp only [Bool.and_eq_true, beq_iff_eq] at hc
    exact ringKept_release_draining h hc.1
  · exact h

theorem RingStands.of_keptButTracker {s t : State} (h : KeptButTracker s t) : RingStands s t :=
  (RingStands.of_units (s := s) (t := s.setTracker t.tracker) rfl).trans (.of_kept h)

/-! ### The profile store and the resets (R153, R163, R181 to R187) -/

/-- The operation of the profile store replaced by one that is no recall and no boot recall. -/
theorem RingKept.setStore {s : State} (h : RingKept s) {p : ProfileStore} (hr : ∀ i, p.op ≠ .recalling i)
    (hb : p.op ≠ .booting) : RingKept (s.setStore p) :=
  ⟨⟨h.lookahead, h.serials, ⟨h.banks.1, h.banks.2.1, fun i hi => absurd hi (hr i)⟩, h.tables⟩, h.fits, h.armed,
    fun hc => absurd (by simpa [State.booting] using hc) hb⟩

/-- R34, R54, R93: behind L_eff the values that follow the active bank are the stages' own. -/
theorem ringStands_settleFromBank (s : State) : RingStands
    (s.setStream { s.stream with lEff := activeSetting s (.stream .lookahead) }) (settleFromBank s) := by
  have noted := kept_noteActive s (.stream .lookahead)
  have set : RingStands (s.setStream { s.stream with lEff := activeSetting s (.stream .lookahead) })
      ((noteActive (.stream .lookahead) s).setStream { (noteActive (.stream .lookahead) s).stream with
        lEff := activeSetting s (.stream .lookahead) }) := by
    rw [noted.stream]
    exact (RingStands.of_kept noted).setStream _
  exact set.trans (.of_kept ((kept_recomputeMains _).trans (kept_recomputeMaxLen _)))

theorem ringKept_settleFromBank {s : State} (h : RingKept s) (hi : s.stream.state = .idle) :
    RingKept (settleFromBank s) := by
  have fits := h.fits
  rw [hi] at fits
  have settled : RingKept (s.setStream { s.stream with lEff := activeSetting s (.stream .lookahead) }) := by
    refine ⟨⟨lookahead_inRange h.tables _, h.serials, h.banks, h.tables⟩, ?_, h.armed, h.boots⟩
    simp only [State.setStream_stream, State.setStream_ring, hi]
    exact fits
  exact settled.stands (ringStands_settleFromBank s)

/-- An idle part with an empty ring and a STANDBY bank. -/
theorem RingKept.of_empty {s : State} (hl : 64 ≤ s.stream.lEff ∧ s.stream.lEff ≤ 1024)
    (ht : InRange s.tables.bank0 ∧ InRange s.tables.bank1)
    (hr : s.ring = []) (hi : s.stream.state = .idle) (ho : s.tables.other = .standby)
    (hop : ∀ i, s.store.op ≠ .recalling i) : RingKept s :=
  ⟨⟨hl, serialsKept_nil hr, ⟨by simp [ho, State.bankCount, hr], fun _ => ho, fun i hc => absurd hc (hop i)⟩,
    tablesInRange_iff.2 ht⟩,
    by rw [hi, hr]; rfl, fun _ => hi, fun _ => hi⟩

theorem ringKept_softResetNow {s : State} (h : RingKept s) : RingKept (softResetNow s) := by
  have values : RingKept (softValues s) := by
    refine .of_empty h.lookahead (tablesInRange_iff.1 h.tables) rfl rfl rfl fun i hc => ?_
    change (softStore s.store).op = .recalling i at hc
    unfold softStore at hc
    split at hc
    · cases hc
    · next hn => exact hn i hc
  exact (ringKept_settleFromBank values rfl).raise ..

theorem ringKept_hardValues {s : State} (h : RingKept s) : RingKept (hardValues s) :=
  .of_empty h.lookahead (tablesInRange_iff.1 h.tables) rfl rfl rfl nofun

/-- R153: both banks filled with one image, at the end of a boot recall. -/
theorem RingKept.booted {s : State} (h : RingKept s) (hb : s.booting = true) {t : TableSetOf Field} (ht : InRange t)
    {p : ProfileStore} (hp : p.op = .ready) :
    RingKept ((s.setTables ⟨t, t, .b0, .standby, none, false, false⟩).setStore p) := by
  have fits := h.fits
  rw [h.boots hb] at fits
  exact .of_empty h.lookahead ⟨ht, ht⟩ (List.length_eq_zero_iff.1 fits) (h.boots hb) rfl
    fun i hc => absurd (hp.symm.trans hc) nofun

theorem ringKept_bootDoneStep {s : State} (h : RingKept s) : RingKept (bootDoneStep s) := by
  unfold bootDoneStep
  split
  · next hop =>
    have booting : s.booting = true := by simp [State.booting, hop]
    have idle : s.stream.state = .idle := h.boots booting
    have filled := h.booted booting (inRange_bootImage (slotOf s.store .ch0)) (p := bootStore s.store) rfl
    exact (ringKept_settleFromBank filled idle).raise ..
  · exact h

/-- R185: the completion of a recall: the LOADING bank tags no record, and becomes STANDBY. -/
theorem ringKept_recalled {s : State} (h : RingKept s) {i : Channel} (hop : s.store.op = .recalling i) {t : Tables}
    {p : ProfileStore} (ha : t.active = s.tables.active) (ho : t.other = .standby)
    (ht : InRange t.bank0 ∧ InRange t.bank1) (hp : p.op = .ready) : RingKept ((s.setTables t).setStore p) := by
  obtain ⟨retiring, _, recalls⟩ := h.banks
  have none : s.bankCount s.tables.active.opposite = 0 :=
    Nat.eq_zero_of_not_pos fun hc => absurd ((recalls i hop).symm.trans (retiring.2 hc)) nofun
  have count : ((s.setTables t).setStore p).bankCount t.active.opposite = 0 := by rw [ha]; exact none
  refine ⟨⟨h.lookahead, h.serials, ⟨?_, fun _ => ho, fun j hj => ?_⟩, tablesInRange_iff.2 ht⟩, h.fits, h.armed,
    fun hb => ?_⟩
  · simp only [State.setStore_tables, State.setTables_tables, ho, count]
    decide
  · exact absurd (hp.symm.trans hj) nofun
  · simp [State.booting, hp] at hb

theorem ringKept_recallDoneStep {s : State} (h : RingKept s) : RingKept (recallDoneStep s) := by
  unfold recallDoneStep
  split
  · next i hop =>
    have image := inRange_clampImage (slotOf s.store i).image
    have range := tablesInRange_iff.1 h.tables
    refine onStored_ringKept (ringKept_recalled h hop (t := { (if checkMatches (slotOf s.store i) then
      withTableFault (withBank s.tables (standbyBank s.tables) (freshBank (clampImage (slotOf s.store i).image)))
        (standbyBank s.tables) false else s.tables) with other := .standby }) ?_ rfl ?_ rfl) rfl
    · split
      · cases standbyBank s.tables <;> rfl
      · rfl
    · split
      · cases standbyBank s.tables
        · exact ⟨image, range.2⟩
        · exact ⟨range.1, image⟩
      · exact range
  · exact h

end Sys2Proof.StreamRing
end

section
/-! The commands that work on the stream, the banks, the templates and the store, and the ring's invariant as a
whole. -/

namespace Sys2Proof.StreamRing

open Sys2Proof Sys2Proof.Machine Sys2Proof.Safety Sys2Proof.SampleLink

theorem RingKept.reply {s : State} (h : RingKept s) (c : CmdCode) (st : Status) (data : List Word) :
    RingKept (reply c st data s) := onStored_ringKept h rfl

/-- R142: a write of the standby bank leaves the bank states. -/
theorem ringKept_writeStandby {s : State} (h : RingKept s) (table : TableCode) (ix : Channel) {vs : List (BitVec 32)}
    (hv : vs.length = fieldCount table) :
    RingKept (s.setTables (writeStandby table ix (clampRecord table vs) s.tables)) := by
  have states : (writeStandby table ix (clampRecord table vs) s.tables).active = s.tables.active ∧
      (writeStandby table ix (clampRecord table vs) s.tables).other = s.tables.other ∧
      (writeStandby table ix (clampRecord table vs) s.tables).pendingX = s.tables.pendingX := by
    unfold writeStandby
    dsimp only
    cases standbyBank s.tables <;> exact ⟨rfl, rfl, rfl⟩
  obtain ⟨active, other, pendingX⟩ := states
  refine ⟨⟨h.lookahead, h.serials, ?_, tablesInRange_writeStandby h.tables table ix hv⟩, h.fits, h.armed, h.boots⟩
  rw [BanksKept, State.setTables_tables, active, other, pendingX]
  exact h.banks

theorem ringKept_cmdWriteTable {s : State} (h : RingKept s) (p : List Word) : RingKept (cmdWriteTable p s) := by
  unfold cmdWriteTable
  split
  · exact h.reply ..
  · split
    · exact h.reply ..
    · split
      · exact h.reply ..
      · next length =>
        split
        · exact h.reply ..
        · refine onStored_ringKept (ringKept_writeStandby h _ _ ?_) rfl
          rw [valuesOf_length]
          omega

/-- R145: a bank that can be exchanged is STANDBY. -/
theorem swapBusy_eq_false {s : State} (h : ¬ swapBusy s = true) : s.tables.other = .standby := by
  simp only [swapBusy, Bool.or_eq_true, not_or, bne_iff_ne, ne_eq, not_not] at h
  exact h.2

theorem ringKept_swapNow {s : State} (h : RingKept s) : RingKept (swapNow s) := by
  unfold swapNow
  split
  · exact h.reply ..
  · next hb =>
    have placed := h.reply .swapBanks .ok []
    exact ⟨orderly_exchangeBanks placed.toOrderly (swapBusy_eq_false hb), fitted_exchangeBanks placed.toFitted⟩

theorem ringKept_swapLater {s : State} (h : RingKept s) (t : Trigger) : RingKept (swapLater t s) := by
  unfold swapLater
  split
  · exact h.reply ..
  · next hb =>
    have standby := swapBusy_eq_false hb
    exact ⟨⟨h.lookahead, h.serials, ⟨h.banks.1, fun _ => standby, h.banks.2.2⟩, h.tables⟩, h.fits,
      h.armed, h.boots⟩

theorem ringKept_cmdSwapBanks {s : State} (h : RingKept s) (p : List Word) : RingKept (cmdSwapBanks p s) := by
  unfold cmdSwapBanks
  split
  · split
    · exact ringKept_swapNow h
    split
    · exact ringKept_swapLater h _
    split
    · exact ringKept_swapLater h _
    split
    · exact ringKept_swapLater h _
    · exact h.reply ..
  · exact h.reply ..

theorem ringKept_cmdCancelSwap {s : State} (h : RingKept s) (p : List Word) : RingKept (cmdCancelSwap p s) := by
  unfold cmdCancelSwap
  split
  · exact ⟨⟨h.lookahead, h.serials, ⟨h.banks.1, fun hp => absurd rfl hp, h.banks.2.2⟩, h.tables⟩, h.fits, h.armed,
      h.boots⟩
  · exact h.reply ..

theorem RingKept.noteActive {s : State} (h : RingKept s) (r : FieldRef) : RingKept (noteActive r s) :=
  h.stands (.of_kept (kept_noteActive s r))

/-- R18, R24: the armed start in IDLE. -/
theorem RingKept.setArmed {s : State} (h : RingKept s) (hi : s.stream.state = .idle) (c : CmdCode) (st : Status)
    (data : List Word) (b : Bool) :
    RingKept ((Machine.reply c st data s).setStream { s.stream with armed := b }) :=
  ⟨⟨h.lookahead, h.serials, h.banks, h.tables⟩, h.fits, fun _ => hi, fun _ => hi⟩

theorem ringKept_cmdStartStream {s : State} (h : RingKept s) (p : List Word) : RingKept (cmdStartStream p s) := by
  unfold cmdStartStream
  split
  · split
    · exact h.reply ..
    · next hc =>
      have idle : s.stream.state = .idle := by
        by_contra hi
        exact hc (.inr hi)
      unfold armStart
      split
      · exact (h.reply ..).noteActive _
      · exact (h.setArmed idle ..).noteActive _
  · exact h.reply ..

theorem ringKept_stopReel {s : State} (h : RingKept s) (hr : inReel s.stream.state = true) : RingKept (stopReel s) := by
  have noted := (h.reply .stopStream .ok []).noteActive (.stream .stopMode)
  unfold stopReel
  split
  · exact (h.reply ..).noteActive _
  · refine ringKept_enterDraining noted ?_
    rw [(kept_noteActive (reply .stopStream .ok [] s) (.stream .stopMode)).stream]
    exact hr

theorem ringKept_cmdStopStream {s : State} (h : RingKept s) (p : List Word) : RingKept (cmdStopStream p s) := by
  unfold cmdStopStream
  split
  · split
    · next hi => exact h.setArmed hi ..
    · next hs => exact ringKept_stopReel h (by rw [hs]; rfl)
    · next hs => exact ringKept_stopReel h (by rw [hs]; rfl)
    · exact h.reply ..
  · exact h.reply ..

/-- R61, R70: reading bins leaves what the stages leave. -/
theorem kept_foldl_readBin (ch : Channel) (e : Engine) (f : Nat → BitVec 6) (l : List Nat) (s : State) :
    Kept s (l.foldl (fun t i => readBin ch e (f i) t) s) := by
  induction l generalizing s with
  | nil => exact .refl s
  | cons i l ih => exact (kept_readBin ..).trans (ih _)

theorem ringKept_cmdReadTemplate {s : State} (h : RingKept s) (p : List Word) : RingKept (cmdReadTemplate p s) := by
  unfold cmdReadTemplate
  split
  · dsimp only
    split
    · exact h.reply ..
    · exact (h.reply ..).stands (.of_kept (kept_foldl_readBin ..))
  · exact h.reply ..

theorem ringKept_cmdLoadTemplate {s : State} (h : RingKept s) (p : List Word) : RingKept (cmdLoadTemplate p s) := by
  unfold cmdLoadTemplate
  split
  · exact h.reply ..
  · dsimp only
    split
    · exact h.reply ..
    split
    · exact h.reply ..
    · exact (h.reply ..).stands (.of_kept (kept_setCanc ..))

theorem ringKept_cmdStoreProfile {s : State} (h : RingKept s) (p : List Word) : RingKept (cmdStoreProfile p s) := by
  unfold cmdStoreProfile
  split
  · split
    · exact h.reply ..
    split
    · exact h.reply ..
    · exact (h.reply ..).setStore nofun nofun
  · exact h.reply ..

/-- R185: a recall begins where no bank is RETIRING and no exchange is pending. -/
theorem ringKept_recallTests {s : State} (h : RingKept s) (i : Channel) : RingKept (recallTests i s) := by
  unfold recallTests
  split
  · exact h.reply ..
  split
  · exact h.reply ..
  split
  · exact h.reply ..
  · next hc =>
    rw [not_or, not_not] at hc
    obtain ⟨notRetiring, notPending⟩ := hc
    have none : ¬ 0 < s.bankCount s.tables.active.opposite := fun hn => notRetiring (h.banks.1.2 hn)
    exact ⟨⟨h.lookahead, h.serials, ⟨⟨nofun, fun hn => absurd hn none⟩, fun hp => absurd notPending hp,
      fun _ _ => rfl⟩, h.tables⟩, h.fits, h.armed, nofun⟩

theorem ringKept_cmdRecallProfile {s : State} (h : RingKept s) (p : List Word) :
    RingKept (cmdRecallProfile p s) := by
  unfold cmdRecallProfile
  split
  · split
    · exact h.reply ..
    · exact ringKept_recallTests h _
  · exact h.reply ..

theorem ringKept_cmdSoftReset {s : State} (h : RingKept s) (p : List Word) : RingKept (cmdSoftReset p s) := by
  unfold cmdSoftReset
  split
  · exact ringKept_softResetNow (h.reply ..)
  · exact h.reply ..

theorem ringKept_runCommand {s : State} (h : RingKept s) (c : CmdCode) (p : List Word) :
    RingKept (runCommand c p s) := by
  by_cases hc : plainCommand c = true
  · exact onStored_ringKept h (runCommand_plain hc p s)
  · cases c with
    | writeTable => exact ringKept_cmdWriteTable h p
    | swapBanks => exact ringKept_cmdSwapBanks h p
    | cancelSwap => exact ringKept_cmdCancelSwap h p
    | startStream => exact ringKept_cmdStartStream h p
    | stopStream => exact ringKept_cmdStopStream h p
    | readTemplate => exact ringKept_cmdReadTemplate h p
    | loadTemplate => exact ringKept_cmdLoadTemplate h p
    | storeProfile => exact ringKept_cmdStoreProfile h p
    | recallProfile => exact ringKept_cmdRecallProfile h p
    | softReset => exact ringKept_cmdSoftReset h p
    | _ => exact absurd rfl hc

theorem ringKept_eraseEndStep {s : State} (h : RingKept s) : RingKept (eraseEndStep s) := by
  unfold eraseEndStep
  split
  · exact h.setStore nofun nofun
  · exact h

theorem ringKept_storeDoneStep {s : State} (h : RingKept s) : RingKept (storeDoneStep s) := by
  unfold storeDoneStep
  split
  · refine RingKept.raise ?_ ..
    exact h.setStore nofun nofun
  · exact h

/-- Every part of the commands' meanings keeps the ring and the bank states. -/
theorem stagesKeep_ringKept : StagesKeep RingKept where
  onStored := onStored_ringKept
  marker m _ h := ringKept_deliverMarker h m
  slot m c _ hb h := ringKept_streamStep h hb m c
  command c p _ _ h := ringKept_runCommand h c p
  linkLost _ h := ringKept_linkLostStep h
  armedStart m x _ hb h := ringKept_armedStartStep h hb m x
  perfMiss s h := h.stands (.of_keptButTracker (keptButTracker_perfMissStep s))
  normalClose ch s h := h.stands (.of_kept (closing_normalCloseStep s ch).toKept)
  retirementEnd _ h := by rw [retirementEndStep_of_banksKept h.banks]; exact h
  drainEnd _ h := ringKept_drainEndStep h
  exchange t _ h := ringKept_exchangeAt h t
  operationEnd _ h := h.setStore nofun nofun
  hardReset _ h := ringKept_hardValues h
  bootDone _ h := ringKept_bootDoneStep h
  eraseEnd _ h := ringKept_eraseEndStep h
  storeDone _ h := ringKept_storeDoneStep h
  recallDone _ h := ringKept_recallDoneStep h

/-- Settles O10: the invariant, in the form `RingKept`, is kept by every part of the commands' meanings. -/
theorem stepKeepsRingAndBanks : Obligations.StepKeepsRingAndBanks :=
  fun s t h hs => ringKept_iff.1 (stagesKeep_ringKept.stepKeeps s t (ringKept_iff.2 h) hs)

end Sys2Proof.StreamRing
end

section
/-! What the stages do with stored values while the tables are sound (R28, R55, R136): the values they write have fresh
parity, and the tables and the fault unit stand. -/

namespace Sys2Proof.StreamRing

open Sys2Proof Sys2Proof.Machine Sys2Proof.Safety Sys2Proof.SampleLink

/-- Every value of a ring passes its check (R28). -/
def RingSound (ring : List FrameRecord) : Prop := ∀ r ∈ ring, ∀ ch : Channel, cellOk (r.entries.get ch).cell = true

/-- An operation that leaves the banks, the values of the next admission and the fault unit, leaves every bin that
passes its check, and puts no failing value into the ring. -/
structure Steady (s t : State) : Prop where
  bank0 : t.tables.bank0 = s.tables.bank0
  bank1 : t.tables.bank1 = s.tables.bank1
  upset : t.upset = s.upset
  fault : t.fault = s.fault
  bins : ∀ ch e b, cellOk (binCell s.canc ch e b) = true → binCell t.canc ch e b = binCell s.canc ch e b
  ring : RingSound s.ring → RingSound t.ring

/-- An operation that is steady while the tables are sound. -/
structure SteadyWhenSound (s t : State) : Prop where
  steady : SoundTables s → Steady s t

theorem Steady.storedField {s t : State} (h : Steady s t) (b : BankId) (r : FieldRef) :
    Machine.storedField t b r = Machine.storedField s b r := by
  cases b <;> simp only [Machine.storedField, bankOf, h.bank0, h.bank1]

theorem Steady.soundTables {s t : State} (h : Steady s t) (hs : SoundTables s) : SoundTables t := by
  intro b r
  rw [h.storedField]
  exact hs b r

theorem Steady.trans {s t u : State} (a : Steady s t) (b : Steady t u) : Steady s u where
  bank0 := b.bank0.trans a.bank0
  bank1 := b.bank1.trans a.bank1
  upset := b.upset.trans a.upset
  fault := b.fault.trans a.fault
  bins ch e i h := (b.bins ch e i (by rw [a.bins ch e i h]; exact h)).trans (a.bins ch e i h)
  ring h := b.ring (a.ring h)

/-- The units that a steady operation may touch only with care. -/
def guardedUnits (s : State) : List FrameRecord × Canceller × Tables × Quad Bool × FaultUnit :=
  (s.ring, s.canc, s.tables, s.upset, s.fault)

namespace SteadyWhenSound

variable {s t u : State}

theorem trans (a : SteadyWhenSound s t) (b : SteadyWhenSound t u) : SteadyWhenSound s u :=
  ⟨fun h => (a.steady h).trans (b.steady ((a.steady h).soundTables h))⟩

theorem ite {p : Prop} [Decidable p] (a : SteadyWhenSound s t) (b : SteadyWhenSound s u) :
    SteadyWhenSound s (if p then t else u) := by
  split <;> assumption

theorem of_units (h : guardedUnits t = guardedUnits s) : SteadyWhenSound s t := by
  simp only [guardedUnits, Prod.mk.injEq] at h
  obtain ⟨ring, canc, tables, upset, fault⟩ := h
  exact ⟨fun _ =>
    ⟨by rw [tables], by rw [tables], upset, fault, fun _ _ _ _ => by rw [canc], fun hr => by rwa [ring]⟩⟩

theorem refl (s : State) : SteadyWhenSound s s := of_units rfl

end SteadyWhenSound

theorem steady_eachChannel {f : Channel → State → State} (h : ∀ c s, SteadyWhenSound s (f c s)) (s : State) :
    SteadyWhenSound s (eachChannel f s) := (((h _ _).trans (h _ _)).trans (h _ _)).trans (h _ _)

/-! ### The updates -/

section

variable (s : State)

theorem steady_raise (k : EventKind) (ch : Option Channel) (p : Option (BitVec 32)) :
    SteadyWhenSound s (raise k ch p s) := .of_units rfl

theorem steady_setLog (l : DefectLog) : SteadyWhenSound s (s.setLog l) := .of_units rfl

theorem steady_setWork (w : Work) : SteadyWhenSound s (s.setWork w) := .of_units rfl

theorem steady_setTracker (x : Tracker) : SteadyWhenSound s (s.setTracker x) := .of_units rfl

theorem steady_setFilm (x : Film) : SteadyWhenSound s (s.setFilm x) := .of_units rfl

theorem steady_setLink (x : Link) : SteadyWhenSound s (s.setLink x) := .of_units rfl

theorem steady_setStream (x : Stream) : SteadyWhenSound s (s.setStream x) := .of_units rfl

theorem steady_setCounters (x : Counters) : SteadyWhenSound s (s.setCounters x) := .of_units rfl

theorem steady_setDet (d : Quad Detector) : SteadyWhenSound s (s.setDet d) := .of_units rfl

theorem steady_setDetector (ch : Channel) (d : Detector) : SteadyWhenSound s (setDetector ch d s) := .of_units rfl

/-- R150: with sound tables a read of a field does nothing. -/
theorem steady_note (b : BankId) (r : FieldRef) : SteadyWhenSound s (note b r s) := by
  refine ⟨fun h => ?_⟩
  rw [note_of_sound h]
  exact (SteadyWhenSound.refl s).steady h

theorem steady_noteActive (r : FieldRef) : SteadyWhenSound s (noteActive r s) := steady_note s _ r

theorem steady_noteInner (b : BankId) (r : FieldRef) : SteadyWhenSound s (noteInner b r s) := by
  refine ⟨fun h => ?_⟩
  rw [noteInner, noteWith, if_pos (h b r)]
  exact (SteadyWhenSound.refl s).steady h

theorem steady_setRing {ring : List FrameRecord} (h : RingSound s.ring → RingSound ring) :
    SteadyWhenSound s (s.setRing ring) :=
  ⟨fun _ => ⟨rfl, rfl, rfl, rfl, fun _ _ _ _ => rfl, h⟩⟩

theorem steady_setCanc {c : Canceller}
    (h : ∀ ch e b, cellOk (binCell s.canc ch e b) = true → binCell c ch e b = binCell s.canc ch e b) :
    SteadyWhenSound s (s.setCanc c) :=
  ⟨fun _ => ⟨rfl, rfl, rfl, rfl, h, id⟩⟩

end

/-! ### The ring (R28, R105) -/

/-- A record with one entry rewritten to one that passes where the old one did. -/
theorem entrySound_set {r : FrameRecord} {ch : Channel} {e : Entry}
    (h : ∀ c, cellOk (r.entries.get c).cell = true) (he : cellOk e.cell = true) (c : Channel) :
    cellOk (((r.entries.set ch e).get c)).cell = true := by
  rw [Quad.get_set]
  split
  · exact he
  · exact h c

/-- A rewriting of an entry that leaves its value keeps the ring sound. -/
theorem ringSound_ringUpdate {f : Entry → Entry} (hf : ∀ e, (f e).cell = e.cell) (p : Serial) (ch : Channel)
    {ring : List FrameRecord} (h : RingSound ring) : RingSound (ringUpdate p ch f ring) := by
  intro r hr
  obtain ⟨q, hq, rfl⟩ := List.mem_map.1 hr
  split
  · exact entrySound_set (h q hq) (by rw [hf]; exact h q hq ch)
  · exact h q hq

/-- R105: filled positions have fresh parity. -/
theorem ringSound_fillRing (ch : Channel) (first : Serial) (g : Nat) (v : Nat → Sample) (held : Bool)
    {ring : List FrameRecord} (h : RingSound ring) : RingSound (fillRing ch first g v held ring) := by
  intro r hr
  obtain ⟨q, hq, rfl⟩ := List.mem_map.1 hr
  dsimp only
  split
  · exact entrySound_set (h q hq) (cellOk_freshCell _)
  · exact h q hq

theorem ringSound_fillDefect (ch : Channel) (first last : Serial) (a b : Option Sample) {ring : List FrameRecord}
    (h : RingSound ring) : RingSound (fillDefect ch first last a b ring) := by
  unfold fillDefect
  cases a <;> cases b
  · exact h
  all_goals exact ringSound_fillRing _ _ _ _ _ h

theorem steady_ringUpdate {f : Entry → Entry} (hf : ∀ e, (f e).cell = e.cell) (p : Serial) (ch : Channel) (s : State) :
    SteadyWhenSound s (s.setRing (ringUpdate p ch f s.ring)) := steady_setRing s (ringSound_ringUpdate hf p ch)

/-! ### Closes (R89, R91, R96, R114) -/

section

variable (s : State)

theorem steady_discardOldest : SteadyWhenSound s (discardOldest s) := by
  have counted : SteadyWhenSound s (countLogLost (s.setLog
    { s.log with readIdx := s.log.readIdx + 1, unread := 255 })) := .of_units rfl
  have reported := counted.trans (SteadyWhenSound.ite (p := s.log.overrunReported = true) (.refl _)
    ((steady_setLog _ { s.log with readIdx := s.log.readIdx + 1, unread := 255, overrunReported := true }).trans
      (steady_raise _ .logOverrun none (some (satInc s.counters.logLost)))))
  unfold discardOldest
  dsimp only
  split
  · exact reported.trans (.ite (steady_setDetector ..) (.refl _))
  · exact reported

theorem steady_appendEntry (e : LogEntry) : SteadyWhenSound s (appendEntry e s) := by
  have room : SteadyWhenSound s (if s.log.unread = Config.logSlots then discardOldest s else s) :=
    .ite (steady_discardOldest s) (.refl s)
  unfold appendEntry
  refine SteadyWhenSound.trans ?_ (steady_setLog _ _)
  refine SteadyWhenSound.trans ?_ (.ite (steady_raise ..) (.ite (steady_raise ..) (.refl _)))
  exact room.trans (steady_setLog _ _)

theorem steady_recordClose (ch : Channel) (o : DefectOutcome) (c : Context) (m : Nat) :
    SteadyWhenSound s (recordClose ch o c m s) := by
  unfold recordClose
  split
  · unfold completeEntry
    split
    · exact .refl s
    · exact steady_setLog s _
  · exact .ite (steady_appendEntry s _) (.refl s)

theorem steady_readAnchor (ch : Channel) (p : Serial) (c : Option Cell) : SteadyWhenSound s (readAnchor ch p c s) := by
  unfold readAnchor
  split
  · exact .ite (.refl s) ((steady_ringUpdate (f := markMemory) (fun _ => rfl) p ch s).trans (steady_raise ..))
  · exact .refl s

theorem steady_repair (ch : Channel) (first last : Serial) (sp : Span) :
    SteadyWhenSound s (repair ch first last sp s) :=
  ((steady_readAnchor s ..).trans (steady_readAnchor ..)).trans (steady_setRing _ (ringSound_fillDefect _ _ _ _ _))

theorem steady_closeOne (ch : Channel) (spanLast : Serial) : SteadyWhenSound s (closeOne ch spanLast s) := by
  unfold closeOne
  split
  · exact .refl s
  · refine SteadyWhenSound.trans ?_ (steady_setDetector ..)
    refine SteadyWhenSound.trans ?_ (steady_recordClose ..)
    exact (SteadyWhenSound.ite (.refl s) (steady_repair s ..)).trans (steady_noteInner ..)

theorem steady_bypassCloses : SteadyWhenSound s (bypassCloses s) :=
  (steady_eachChannel (fun _ s => steady_closeOne s _ _) s).trans (steady_setDet ..)

theorem steady_leaveNormal : SteadyWhenSound s (leaveNormal s) := .ite (steady_setWork s _) (steady_bypassCloses s)

theorem steady_closeContext (ch : Channel) (spanLast : Serial) : SteadyWhenSound s (closeContext ch spanLast s) :=
  .ite ((steady_closeOne s ch spanLast).trans (steady_leaveNormal _)) (steady_closeOne s ch spanLast)

theorem steady_normalCloseStep (ch : Channel) : SteadyWhenSound s (normalCloseStep ch s) := by
  unfold normalCloseStep
  split
  · exact .ite (steady_closeContext s ..) (.refl s)
  · exact .refl s

theorem steady_endAdmission : SteadyWhenSound s (endAdmission s) :=
  (steady_setWork s _).trans (.ite (steady_bypassCloses _) (.refl _))

/-- R25, R91: the closes at the entry to DRAINING. -/
theorem steady_drainDetector : SteadyWhenSound s (drainDetector s) :=
  ((steady_eachChannel (fun ch t => steady_closeContext t ch (newestSerial t)) s).trans (steady_setDet ..)).trans
    (steady_setDet ..)

theorem steady_enterState (st : StreamState) : SteadyWhenSound s (enterState st s) := .of_units rfl

theorem steady_enterDraining : SteadyWhenSound s (enterDraining s) :=
  (steady_enterState s _).trans (steady_drainDetector _)

/-! ### The detector (R74 to R91) -/

theorem steady_openContext (ch : Channel) (p : Serial) (causes : Causes) (peak : Option Nat) :
    SteadyWhenSound s (openContext ch p causes peak s) := by
  unfold openContext
  have opened (c : Context) (b : BankId) (f : FieldRef) :
      SteadyWhenSound s (note b f (withContext ch (some c) (noteActive (.chan ch .closeRun) s))) :=
    ((steady_noteActive s _).trans (steady_setDetector ..)).trans (steady_note ..)
  exact (opened ..).trans (.ite ((steady_appendEntry _ _).trans (steady_setDetector ..)) (.refl _))

theorem steady_settleFlagged (ch : Channel) (p : Serial) (causes : Causes) (peak : Option Nat) :
    SteadyWhenSound s (settleFlagged ch p causes peak s) := by
  unfold settleFlagged
  split
  · exact steady_openContext ..
  · exact (steady_setDetector ..).trans (.ite (steady_setCounters ..) (.refl _))

theorem steady_settleClean (ch : Channel) (p : Serial) : SteadyWhenSound s (settleClean ch p s) := by
  unfold settleClean
  split
  · exact .refl s
  · exact .ite ((steady_setDetector ..).trans (steady_normalCloseStep ..)) (.refl s)

theorem steady_evaluateCentre (ch : Channel) (n : Serial) (vn v1 v2 : Sample) :
    SteadyWhenSound s (evaluateCentre ch n vn v1 v2 s) := by
  unfold evaluateCentre
  refine ((steady_noteActive ..).trans (steady_noteActive ..)).trans (.ite ?_ (.ite (.refl _) ?_))
  · exact ((steady_ringUpdate (f := markFlagged) (fun _ => rfl) ..).trans (steady_setCounters ..)).trans
      (steady_settleFlagged ..)
  · exact (steady_setDetector ..).trans (steady_settleClean ..)

theorem steady_applyForced (ch : Channel) (n : Serial) (causes : Causes) :
    SteadyWhenSound s (applyForced ch n causes s) :=
  .ite ((steady_ringUpdate (f := markFlagged) (fun _ => rfl) ..).trans (steady_settleFlagged ..)) (.refl s)

theorem steady_failedRead (ch : Channel) (n : Serial) : SteadyWhenSound s (failedRead ch n s) :=
  (steady_ringUpdate (f := markMemory) (fun _ => rfl) ..).trans (steady_raise ..)

theorem steady_watchPosition (ch : Channel) (r : FrameRecord) : SteadyWhenSound s (watchPosition ch r s) := by
  unfold watchPosition
  refine SteadyWhenSound.trans ?_ ((steady_setDetector ..).trans (steady_setDetector ..))
  refine SteadyWhenSound.trans ?_ (steady_applyForced ..)
  have read : SteadyWhenSound s (if cellOk (r.entries.get ch).cell then s else failedRead ch r.serial s) :=
    .ite (.refl s) (steady_failedRead ..)
  refine read.trans ?_
  generalize (if cellOk (r.entries.get ch).cell then s else failedRead ch r.serial s) = t
  split
  · exact steady_evaluateCentre ..
  · exact .refl _

theorem steady_skipPosition (ch : Channel) (r : FrameRecord) : SteadyWhenSound s (skipPosition ch r s) :=
  ((steady_closeContext ..).trans (steady_setDetector ..)).trans (steady_setDetector ..)

theorem steady_noteWatched (r : FrameRecord) (ch : Channel) : SteadyWhenSound s (noteWatched r ch s) :=
  .ite ((steady_noteActive ..).trans (.ite (steady_noteActive ..) (.refl _))) (.refl s)

/-- R74: the detector's work on one channel. -/
theorem steady_detectChannel (r : FrameRecord) (ch : Channel) : SteadyWhenSound s (detectChannel r ch s) :=
  (steady_noteWatched ..).trans (.ite (steady_watchPosition ..) (steady_skipPosition ..))

end

/-! ### Bins (R55, R61) -/

/-- R55: a bin after one of them is written. -/
theorem binCell_writeBin (c : Canceller) (ch ch' : Channel) (e e' : Engine) (b b' : BitVec 6) (v : Sample) :
    binCell (writeBin ch e b v c) ch' e' b' =
      if ch' = ch ∧ e' = e ∧ b' = b then freshCell v else binCell c ch' e' b' := by
  have bin (q : Quad (Vector Cell 64)) : ((q.set ch ((q.get ch).set b.toNat (freshCell v) b.isLt)).get ch')[b'.toNat] =
      if ch' = ch ∧ b' = b then freshCell v else (q.get ch')[b'.toNat] := by
    by_cases hc : ch' = ch
    · subst hc
      rw [Quad.get_set_same, Vector.getElem_set]
      simp only [true_and, BitVec.toNat_inj, eq_comm]
    · simp [Quad.get_set, hc]
  cases e <;> cases e'
  · simpa [binCell, writeBin, withTemplate, templateOf] using bin c.perfTpl
  · simp [binCell, writeBin, withTemplate, templateOf]
  · simp [binCell, writeBin, withTemplate, templateOf]
  · simpa [binCell, writeBin, withTemplate, templateOf] using bin c.mainsTpl

/-- A canceller with the templates of another has its bins. -/
theorem binCell_of_templates {c d : Canceller} (hp : d.perfTpl = c.perfTpl) (hm : d.mainsTpl = c.mainsTpl)
    (ch : Channel) (e : Engine) (b : BitVec 6) : binCell d ch e b = binCell c ch e b := by
  have template : templateOf d ch e = templateOf c ch e := by cases e <;> simp only [templateOf, hp, hm]
  rw [binCell, binCell, template]

section

variable (s : State)

/-- R61: a read rewrites the bin that fails, and no other. -/
theorem steady_readBin (ch : Channel) (e : Engine) (b : BitVec 6) : SteadyWhenSound s (readBin ch e b s) := by
  unfold readBin
  split
  · exact .refl s
  · next hf =>
    refine (steady_setCanc s fun ch' e' b' h => ?_).trans (steady_raise ..)
    rw [binCell_writeBin]
    split
    · next same =>
      obtain ⟨rfl, rfl, rfl⟩ := same
      exact absurd h hf
    · rfl

theorem steady_subtractMarks (ch : Channel) (x : Sample) (pb mb : BitVec 6) :
    SteadyWhenSound s (subtractMarks ch x pb mb s) := by
  unfold subtractMarks
  refine SteadyWhenSound.trans ?_ (.ite (steady_setCounters ..) (.refl _))
  refine SteadyWhenSound.trans ?_ (.ite (steady_readBin ..) (.refl _))
  exact ((steady_note ..).trans (steady_note ..)).trans (.ite (steady_readBin ..) (.refl _))

theorem steady_subtractAll (processed accepted : Bool) (x : Quad Sample) :
    SteadyWhenSound s (subtractAll processed accepted x s) :=
  steady_eachChannel (fun _ _ => .ite (steady_subtractMarks ..) (.refl _)) s

theorem steady_advancePhases (accepted : Bool) : SteadyWhenSound s (advancePhases accepted s) :=
  steady_setCanc s fun ch e b _ => binCell_of_templates rfl rfl ch e b

/-! ### The tracker, Pm and max_len_eff (R44 to R54, R93) -/

/-- R54: a new Pm leaves the templates. -/
theorem withMainsPeriod_templates (pm : Nat) (c : Canceller) :
    (withMainsPeriod pm c).perfTpl = c.perfTpl ∧ (withMainsPeriod pm c).mainsTpl = c.mainsTpl := by
  unfold withMainsPeriod
  split <;> exact ⟨rfl, rfl⟩

theorem steady_noteMains : SteadyWhenSound s (noteMains s) :=
  .ite ((steady_noteActive ..).trans (steady_noteActive ..)) ((steady_noteActive ..).trans (steady_noteActive ..))

theorem steady_recomputeMains : SteadyWhenSound s (recomputeMains s) := by
  refine (steady_noteMains s).trans (steady_setCanc _ fun ch e b _ => ?_)
  obtain ⟨perf, mains⟩ := withMainsPeriod_templates (mainsPeriodOf s) (noteMains s).canc
  exact binCell_of_templates perf mains ch e b

theorem steady_recomputeMaxLen : SteadyWhenSound s (recomputeMaxLen s) :=
  (steady_eachChannel (fun _ _ => (steady_noteActive ..).trans (steady_noteActive ..)) s).trans (steady_setDet ..)

theorem steady_acquirePerf : SteadyWhenSound s (acquirePerf s) :=
  .ite (steady_setTracker ..)
    (.ite (((steady_setTracker ..).trans (steady_raise ..)).trans (steady_recomputeMains _)) (steady_setTracker ..))

theorem steady_lockedPerf : SteadyWhenSound s (lockedPerf s) :=
  .ite ((steady_setTracker ..).trans (.ite (.refl _) (steady_recomputeMains _)))
    (.ite (steady_setCounters ..) (.refl s))

theorem steady_takePerf : SteadyWhenSound s (takePerf s) := by
  unfold takePerf
  split
  · exact steady_acquirePerf s
  · exact steady_lockedPerf s
  · exact steady_lockedPerf s
  · exact steady_setTracker ..

theorem steady_perfMissStep : SteadyWhenSound s (perfMissStep s) :=
  .ite (((steady_noteActive ..).trans (steady_setTracker ..)).trans (.ite (steady_raise ..) (.refl _))) (.refl s)

theorem steady_takeRecord (m : Marker) : SteadyWhenSound s (takeRecord m s) :=
  (steady_setTracker s _).trans (.ite (steady_takePerf _) (steady_perfMissStep _))

/-! ### Bank exchanges and markers (R36, R38, R41, R146) -/

theorem steady_exchangeBanks : SteadyWhenSound s (exchangeBanks s) := by
  have exchanged : SteadyWhenSound s (s.setTables (exchangedTables s)) :=
    ⟨fun _ => ⟨rfl, rfl, rfl, rfl, fun _ _ _ _ => rfl, id⟩⟩
  exact ((exchanged.trans (steady_recomputeMains _)).trans (steady_recomputeMaxLen _)).trans (steady_raise ..)

theorem steady_exchangeAt (t : Trigger) : SteadyWhenSound s (exchangeAt t s) :=
  .ite (steady_exchangeBanks s) (.refl s)

theorem steady_deliverFrame : SteadyWhenSound s (deliverFrame s) :=
  ((steady_exchangeAt s _).trans (steady_setFilm ..)).trans (.ite (steady_raise ..) (.refl _))

theorem steady_deliverReelStart : SteadyWhenSound s (deliverReelStart s) :=
  (steady_noteActive s _).trans (.ite (steady_setFilm ..) (.refl _))

theorem steady_deliverSplice : SteadyWhenSound s (deliverSplice s) := by
  have guarded (x : Film) := ((steady_exchangeAt s .nextSplice).trans
    (steady_noteActive _ (.stream .spliceGuard))).trans (steady_setFilm _ x)
  have noted (x : Film) := ((guarded x).trans (steady_noteActive _ (.stream .spliceLen))).trans
    (steady_noteActive _ (.stream .channelMask))
  exact (((noted _).trans (steady_setDet ..)).trans (steady_setTracker ..)).trans (steady_raise ..)

theorem steady_deliverMarker (m : Marker) : SteadyWhenSound s (deliverMarker m s) := by
  cases m with
  | none => exact .refl s
  | perf => exact .refl s
  | frame => exact steady_deliverFrame s
  | framePerf => exact steady_deliverFrame s
  | splice => exact steady_deliverSplice s
  | reelStart => exact steady_deliverReelStart s
  | reelEnd => exact .refl s

/-! ### Admissions (R22, R23, R30) -/

theorem steady_beforeRecord (samples : Option (Quad Sample)) : SteadyWhenSound s (beforeRecord samples s) :=
  ((steady_setLink ..).trans (steady_setWork ..)).trans (.ite (.refl _) (steady_setFilm ..))

theorem steady_recordTaken (m : Marker) (samples : Option (Quad Sample)) :
    SteadyWhenSound s (recordTaken m samples s) :=
  ((steady_beforeRecord s samples).trans (steady_takeRecord ..)).trans (steady_noteActive ..)

/-- R30: the part before the record is placed. -/
theorem steady_subtracted (m : Marker) (samples : Option (Quad Sample)) : SteadyWhenSound s (subtracted m samples s) :=
  ((steady_recordTaken s m samples).trans (steady_subtractAll ..)).trans (steady_advancePhases ..)

/-- R30 step 4. -/
theorem steady_admitRecord (m : Marker) (stamp : BitVec 16) (samples : Option (Quad Sample)) :
    SteadyWhenSound (recordPlaced m stamp samples s) (admitRecord m stamp samples s) :=
  (steady_eachChannel (fun ch t => steady_detectChannel t _ ch) _).trans (steady_endAdmission _)

theorem steady_checkRunning : SteadyWhenSound s (checkRunning s) := .ite (steady_enterState ..) (.refl s)

theorem steady_afterAdmission (m : Marker) : SteadyWhenSound s (afterAdmission m s) :=
  .ite ((steady_noteActive ..).trans (.ite (steady_enterDraining _) (steady_checkRunning _))) (steady_checkRunning s)

end

end Sys2Proof.StreamRing
end

section
/-! Every write of a stored value gives it fresh parity (R28, R55, R136): every step keeps the values that pass their
checks. -/

namespace Sys2Proof.StreamRing

open Sys2Proof Sys2Proof.Machine Sys2Proof.Safety Sys2Proof.SampleLink

/-- Every bin passes its check (R55). -/
def BinsSound (c : Canceller) : Prop := ∀ ch e b, cellOk (binCell c ch e b) = true

/-- Every stored value passes its check, and no value of the next admission is upset. -/
structure ValuesSound (s : State) : Prop where
  tables : SoundTables s
  ring : RingSound s.ring
  bins : BinsSound s.canc
  upset : NoUpset s

theorem valuesSound_iff {s : State} : ValuesSound s ↔ SoundTables s ∧ SoundCells s ∧ NoUpset s :=
  ⟨fun h => ⟨h.tables, ⟨h.ring, h.bins⟩, h.upset⟩, fun h => ⟨h.1, h.2.1.1, h.2.1.2, h.2.2⟩⟩

theorem soundTables_of_banks {s t : State} (h : SoundTables s) (h0 : t.tables.bank0 = s.tables.bank0)
    (h1 : t.tables.bank1 = s.tables.bank1) : SoundTables t := by
  intro b r
  have stored := h b r
  cases b <;> simpa only [storedField, bankOf, h0, h1] using stored

theorem onStored_valuesSound : OnStored ValuesSound := by
  intro s t h hu
  simp only [storedUnits, Prod.mk.injEq] at hu
  obtain ⟨-, ring, canc, tables, -, upset⟩ := hu
  exact ⟨soundTables_of_banks h.tables (by rw [tables]) (by rw [tables]), by rw [ring]; exact h.ring,
    by rw [canc]; exact h.bins, upset.trans h.upset⟩

theorem ValuesSound.raise {s : State} (h : ValuesSound s) (k : EventKind) (ch : Option Channel)
    (p : Option (BitVec 32)) : ValuesSound (raise k ch p s) := onStored_valuesSound h rfl

/-- What is steady while the tables are sound keeps the values sound. -/
theorem SteadyWhenSound.valuesSound {s t : State} (k : SteadyWhenSound s t) (h : ValuesSound s) : ValuesSound t := by
  have steady := k.steady h.tables
  exact ⟨steady.soundTables h.tables, steady.ring h.ring,
    fun ch e b => by rw [steady.bins ch e b (h.bins ch e b)]; exact h.bins ch e b, steady.upset.trans h.upset⟩

/-! ### Bins (R55, R58, R66, R69, R71) -/

/-- R55: a written bin has fresh parity. -/
theorem BinsSound.writeBin {c : Canceller} (h : BinsSound c) (ch : Channel) (e : Engine) (b : BitVec 6) (v : Sample) :
    BinsSound (writeBin ch e b v c) := by
  intro ch' e' b'
  rw [binCell_writeBin]
  split
  · exact cellOk_freshCell v
  · exact h ch' e' b'

theorem BinsSound.loadBins {c : Canceller} (h : BinsSound c) (ch : Channel) (e : Engine) (vs : List Sample)
    (first : Nat) : BinsSound (loadBins ch e first vs c) := by
  induction vs generalizing first c with
  | nil => exact h
  | cons v vs ih => exact ih (h.writeBin ch e _ v) _

theorem ValuesSound.setCanc {s : State} (h : ValuesSound s) {c : Canceller} (hc : BinsSound c) :
    ValuesSound (s.setCanc c) := ⟨h.tables, h.ring, hc, h.upset⟩

/-- The reads of keep_templates leave the canceller. -/
theorem inner_keepReads (s : State) :
    Inner s (eachChannel (fun ch t => noteActive (.chan ch .keepTemplates) t) s) :=
  inner_eachChannel (fun _ _ => inner_noteActive ..) s

/-- R58, R69: a stream start clears the bins of the channels that do not keep them. -/
theorem binCell_startCanceller (s : State) (ch : Channel) (e : Engine) (b : BitVec 6) :
    binCell (startCanceller s).canc ch e b =
      if keepsTemplates s ch = true then binCell s.canc ch e b else freshCell 0 := by
  have kept := (inner_keepReads s).canc
  have cleared : clearTemplate[b.toNat] = freshCell 0 := by
    simp only [clearTemplate, Vector.getElem_replicate]
    decide
  have template : templateOf (startCanceller s).canc ch e =
      if keepsTemplates s ch = true then templateOf s.canc ch e else clearTemplate := by
    cases e <;> simp [startCanceller, templateOf, kept]
  rw [binCell, template]
  split
  · rfl
  · exact cleared

theorem valuesSound_startCanceller {s : State} (h : ValuesSound s) : ValuesSound (startCanceller s) := by
  have noted : SteadyWhenSound s (eachChannel (fun ch t => noteActive (.chan ch .keepTemplates) t) s) :=
    steady_eachChannel (fun _ t => steady_noteActive t _) s
  refine (noted.valuesSound h).setCanc fun ch e b => ?_
  have bin := binCell_startCanceller s ch e b
  simp only [startCanceller, State.setCanc_canc] at bin
  rw [bin]
  split
  · exact h.bins ch e b
  · exact cellOk_freshCell 0

/-! ### Faults (R150, R176, R177) -/

/-- R150: with sound tables the read of a policy does nothing. -/
theorem notePolicy_of_sound {s : State} (h : SoundTables s) (k : FaultKind) : notePolicy k s = s := if_pos (h _ _)

theorem valuesSound_takeFault {s : State} (h : ValuesSound s) (k : FaultKind) (ch : Option Channel)
    (e : Option Engine) : ValuesSound (takeFault k ch e s) := by
  have left {t : State} (ht : ValuesSound t) : ValuesSound (leaveNormal t) := (steady_leaveNormal t).valuesSound ht
  unfold takeFault takeFaultWith
  dsimp only
  split
  · set u := raise .fault ch (some (faultParam k e)) (s.setFault { s.fault with capture := some (captureOf s k ch e) })
    have taken : ValuesSound u := onStored_valuesSound h rfl
    rw [notePolicy_of_sound taken.tables]
    split
    · exact left (onStored_valuesSound taken rfl)
    · exact taken
  · have latched : ValuesSound (withMode .latched s) := onStored_valuesSound h rfl
    set u := if s.fault.mode = .normal then leaveNormal (withMode .latched s) else withMode .latched s with hu
    have closed : ValuesSound u := by
      rw [hu]
      split
      · exact left latched
      · exact latched
    exact onStored_valuesSound closed rfl

/-! ### Releases (R31, R64 to R67) -/

/-- R66, R67: an adapted bin has fresh parity, clamped or not. -/
theorem valuesSound_adaptBin {s : State} (h : ValuesSound s) (bank : BankId) (ch : Channel) (e : Engine)
    (b : BitVec 6) (v : Sample) : ValuesSound (adaptBin bank ch e b v s) := by
  have read := ((steady_note s bank (shiftField ch e)).trans (steady_readBin _ ch e b)).valuesSound h
  have written (x : Sample) := read.setCanc (read.bins.writeBin ch e b x)
  unfold adaptBin
  dsimp only
  split
  · exact valuesSound_takeFault (written _) ..
  · exact written _

theorem valuesSound_adaptEngine {s : State} (h : ValuesSound s) (r : FrameRecord) (active : Bool) (hold : HoldSet)
    (failed : Bool) (v : Sample) (ch : Channel) (e : Engine) :
    ValuesSound (adaptEngine r active hold failed v ch e s) := by
  unfold adaptEngine
  dsimp only
  split
  · exact valuesSound_adaptBin h ..
  · exact h

theorem valuesSound_adaptRecord {s : State} (h : ValuesSound s) (r : FrameRecord) (mask : Nat) (x : Quad Sample)
    (hp hm : Quad HoldSet) : ValuesSound (adaptRecord r mask x hp hm s) := by
  have each {t : State} (ht : ValuesSound t) (ch : Channel) := valuesSound_adaptEngine
    (valuesSound_adaptEngine ht r (inMask mask ch) (hp.get ch) (failsRelease r ch) (x.get ch) ch .perf)
    r (inMask mask ch) (hm.get ch) (failsRelease r ch) (x.get ch) ch .mains
  exact each (each (each (each h _) _) _) _

section

variable (s : State)

theorem steady_retirementEndStep : SteadyWhenSound s (retirementEndStep s) :=
  .ite ⟨fun _ => ⟨rfl, rfl, rfl, rfl, fun _ _ _ _ => rfl, id⟩⟩ (.refl s)

theorem steady_checkDrained : SteadyWhenSound s (checkDrained s) := .ite (steady_enterState ..) (.refl s)

theorem steady_releaseMarks (r : FrameRecord) (mask : Nat) : SteadyWhenSound s (releaseMarks r mask s) :=
  steady_eachChannel (fun _ t => .ite (steady_raise t ..) (.refl t)) s

theorem steady_noteHolds (r : FrameRecord) (mask : Nat) : SteadyWhenSound s (noteHolds r mask s) :=
  .ite (steady_eachChannel (fun _ t => .ite ((steady_note t ..).trans (steady_note ..)) (.refl t)) s) (.refl s)

theorem steady_noteHiss (r : FrameRecord) (active failed : Bool) (y : Int) (ch : Channel) :
    SteadyWhenSound s (noteHiss r active failed y ch s) := by
  unfold noteHiss
  dsimp only
  refine .ite (.ite ?_ (steady_note ..)) (.refl s)
  exact ((((steady_note ..).trans (steady_note ..)).trans (steady_note ..)).trans (steady_note ..)).trans
    ((steady_note ..).trans (steady_note ..))

theorem steady_hissRecord (r : FrameRecord) (mask : Nat) (x : Quad Sample) :
    SteadyWhenSound s (hissRecord r mask x s) :=
  (steady_eachChannel (fun ch t => steady_noteHiss t r _ _ _ ch) s).trans (.of_units rfl)

end

theorem valuesSound_releaseRecord {s : State} (h : ValuesSound s) {r : FrameRecord} {rest : List FrameRecord}
    (hr : s.ring = r :: rest) : ValuesSound (releaseRecord r rest s) := by
  have shorter : RingSound s.ring → RingSound rest := fun hs q hq => hs q (by rw [hr]; exact List.mem_cons_of_mem _ hq)
  have dropped := ((steady_setRing s shorter).trans (steady_retirementEndStep _)).trans (steady_checkDrained _)
  unfold releaseRecord
  dsimp only
  refine onStored_valuesSound (s := hissRecord _ _ _ _) ?_ rfl
  refine (steady_hissRecord ..).valuesSound (valuesSound_adaptRecord ?_ ..)
  refine (steady_noteHolds ..).valuesSound ?_
  exact (steady_releaseMarks ..).valuesSound ((steady_note ..).valuesSound (dropped.valuesSound h))

theorem valuesSound_release {s : State} (h : ValuesSound s) : ValuesSound (release s) := by
  unfold release
  split
  · exact h
  · next hr => exact valuesSound_releaseRecord h hr

/-! ### Admissions and stream starts (R20, R28, R30) -/

/-- R28: the entries of a record are formed with fresh parity. -/
theorem cellOk_admittedEntry (s : State) (processed held guarded accepted : Bool) (x : Quad Sample) (ch : Channel) :
    cellOk (admittedEntry s processed held guarded accepted x ch).cell = true := by
  unfold admittedEntry
  split
  · exact cellOk_freshCell _
  · exact cellOk_freshCell 0

theorem cellOk_admittedRecord {s : State} (h : NoUpset s) (m : Marker) (stamp : BitVec 16)
    (samples : Option (Quad Sample)) (ch : Channel) :
    cellOk ((admittedRecord m stamp samples s).entries.get ch).cell = true := by
  have none : (subtracted m samples s).upset = Quad.all false := (upset_subtracted m samples s).trans h
  simp only [admittedRecord, none, upsetRecord_none, admittedEntries, Quad.get_build]
  exact cellOk_admittedEntry ..

theorem valuesSound_admitSlot {s : State} (h : ValuesSound s) (m : Marker) (stamp : BitVec 16)
    (samples : Option (Quad Sample)) : ValuesSound (admitSlot m stamp samples s) := by
  have before := (steady_subtracted s m samples).valuesSound h
  have ring : RingSound (recordPlaced m stamp samples s).ring := by
    intro r hr ch
    rcases List.mem_append.1 hr with hr | hr
    · exact before.ring r hr ch
    · rw [List.mem_singleton.1 hr]
      exact cellOk_admittedRecord h.upset ..
  have placed : ValuesSound (recordPlaced m stamp samples s) := ⟨before.tables, ring, before.bins, rfl⟩
  exact (steady_afterAdmission _ m).valuesSound ((steady_admitRecord s m stamp samples).valuesSound placed)

theorem steady_noteLookahead (s : State) : SteadyWhenSound s (noteLookahead s) := by
  unfold noteLookahead
  refine ((steady_noteActive s _).trans (steady_noteActive ..)).trans (steady_eachChannel (fun ch t => ?_) _)
  exact .ite ((steady_noteActive ..).trans (.ite ((steady_noteActive ..).trans (steady_noteActive ..)) (.refl _)))
    (.refl _)

theorem steady_startBegun (s : State) : SteadyWhenSound s (startBegun s) := by
  unfold startBegun
  exact (((steady_exchangeAt s _).trans (steady_noteLookahead _)).trans (steady_setStream ..)).trans
    ((steady_setLink ..).trans (steady_enterState ..))

theorem startSettled_units (m : Marker) (s : State) : storedUnits (startSettled m s) = storedUnits s := by
  unfold startSettled
  dsimp only
  split <;> rfl

theorem valuesSound_startStreamNow {s : State} (h : ValuesSound s) (m : Marker) :
    ValuesSound (startStreamNow m s) := by
  have begun (d : Quad Detector) :=
    (steady_startBegun s).trans ((steady_setDet _ d).trans (steady_recomputeMaxLen _))
  have acted : ValuesSound (startActed m s) := valuesSound_startCanceller ((begun _).valuesSound h)
  rw [startStreamNow_eq]
  exact onStored_valuesSound acted (startSettled_units m _)

/-! ### Slots (R16) -/

theorem valuesSound_startAndAdmit {s : State} (h : ValuesSound s) (m : Marker) (stamp : BitVec 16) (x : Quad Sample) :
    ValuesSound (startAndAdmit m stamp x s) := valuesSound_admitSlot (valuesSound_startStreamNow h m) ..

theorem valuesSound_arriveIdle {s : State} (h : ValuesSound s) (m : Marker) (c : SlotClass) :
    ValuesSound (arriveIdle m c s) := by
  cases c with
  | bad => exact h
  | idle => exact h
  | sample x =>
    have counted : SteadyWhenSound s (countSlot s) := .of_units rfl
    have noted : SteadyWhenSound s (noteMarkerStart m (countSlot s)) :=
      counted.trans (SteadyWhenSound.ite (steady_noteActive ..) (.refl _))
    unfold arriveIdle
    dsimp only
    split
    · exact valuesSound_startAndAdmit (noted.valuesSound h) ..
    · exact onStored_valuesSound (noted.valuesSound h) rfl

theorem valuesSound_streamStep {s : State} (h : ValuesSound s) (m : Marker) (c : SlotClass) :
    ValuesSound (streamStep m c s) := by
  have cleared : ValuesSound (s.setOut { s.out with slot := idleSlot }) := onStored_valuesSound h rfl
  have counted : ValuesSound (countSlot (s.setOut { s.out with slot := idleSlot })) := onStored_valuesSound h rfl
  unfold streamStep
  dsimp only
  split
  · exact valuesSound_arriveIdle cleared m c
  · exact valuesSound_admitSlot counted ..
  · exact valuesSound_admitSlot (valuesSound_release counted) ..
  · cases c with
    | bad => exact valuesSound_release cleared
    | idle => exact valuesSound_release cleared
    | sample x => exact valuesSound_release (onStored_valuesSound cleared rfl)

theorem valuesSound_armedStartStep {s : State} (h : ValuesSound s) (m : Marker) (x : Quad Sample) :
    ValuesSound (armedStartStep m x s) := by
  have counted : ValuesSound (countSlot (s.setOut { s.out with slot := idleSlot })) := onStored_valuesSound h rfl
  unfold armedStartStep
  split
  · exact valuesSound_startAndAdmit counted ..
  · exact h

theorem valuesSound_drainEndStep {s : State} (h : ValuesSound s) : ValuesSound (drainEndStep s) := by
  unfold drainEndStep
  split
  · exact valuesSound_release h
  · exact h

theorem steady_linkLostStep (s : State) : SteadyWhenSound s (linkLostStep s) := by
  have gone : SteadyWhenSound s (linkGone s) := .of_units rfl
  by_cases hl : s.link.cond = .good ∧ s.link.badCount = 256
  · rw [linkLostStep_eq hl.1 hl.2]
    exact .ite (gone.trans (steady_enterDraining _)) gone
  · rw [linkLostStep_of_not hl]
    exact .refl s

/-! ### Resets and the profile store (R153, R163, R181 to R187) -/

theorem steady_settleFromBank (s : State) : SteadyWhenSound s (settleFromBank s) := by
  unfold settleFromBank
  exact ((steady_noteActive s _).trans (steady_setStream ..)).trans
    ((steady_recomputeMains _).trans (steady_recomputeMaxLen _))

theorem ringSound_nil : RingSound [] := fun _ hr => absurd hr List.not_mem_nil

theorem valuesSound_softResetNow {s : State} (h : ValuesSound s) : ValuesSound (softResetNow s) := by
  have values : ValuesSound (softValues s) := by
    refine ⟨soundTables_of_banks h.tables rfl rfl, ringSound_nil, fun ch e b => ?_, h.upset⟩
    exact (congrArg cellOk (binCell_of_templates rfl rfl ch e b)).trans (h.bins ch e b)
  exact ((steady_settleFromBank _).valuesSound values).raise ..

theorem valuesSound_hardValues {s : State} (h : ValuesSound s) : ValuesSound (hardValues s) := by
  refine ⟨soundTables_of_banks h.tables rfl rfl, ringSound_nil, fun ch e b => ?_, h.upset⟩
  rw [binCell_clear rfl rfl]
  exact cellOk_freshCell 0

/-- R153: a bank filled afresh passes every check. -/
theorem fieldOk_freshBank (t : TableSetOf (BitVec 32)) (r : FieldRef) : fieldOk ((freshBank t).field r) = true := by
  rw [field_freshBank]
  exact fieldOk_freshField _

/-- Every field of both banks passes its check. -/
def BanksSound (t : Tables) : Prop := ∀ b r, fieldOk ((bankOf t b).field r) = true

/-- R140: one bank is replaced by a sound one, and its table-fault flag set. -/
theorem BanksSound.withBank {t : Tables} (h : BanksSound t) {x : TableSetOf Field}
    (hx : ∀ r, fieldOk (x.field r) = true) (b : BankId) (v : Bool) :
    BanksSound (withTableFault (withBank t b x) b v) := by
  intro b' r
  have stored := h b' r
  cases b <;> cases b'
  · exact hx r
  · exact stored
  · exact stored
  · exact hx r

theorem BanksSound.setOther {t : Tables} (h : BanksSound t) (x : OtherState) : BanksSound { t with other := x } := h

theorem ValuesSound.setTables {s : State} (h : ValuesSound s) {t : Tables} (ht : BanksSound t) :
    ValuesSound (s.setTables t) := ⟨ht, h.ring, h.bins, h.upset⟩

theorem ValuesSound.setStore {s : State} (h : ValuesSound s) (p : ProfileStore) : ValuesSound (s.setStore p) :=
  ⟨h.tables, h.ring, h.bins, h.upset⟩

/-- R153: two banks filled with one image. -/
theorem banksSound_fresh (t : TableSetOf (BitVec 32)) (a : BankId) (o : OtherState) (p : Option Trigger)
    (f g : Bool) : BanksSound ⟨freshBank t, freshBank t, a, o, p, f, g⟩ := by
  intro b r
  cases b <;> exact fieldOk_freshBank t r

theorem valuesSound_bootDoneStep {s : State} (h : ValuesSound s) : ValuesSound (bootDoneStep s) := by
  unfold bootDoneStep
  split
  · exact ((steady_settleFromBank _).valuesSound ((h.setTables (banksSound_fresh _ _ _ _ _ _)).setStore _)).raise ..
  · exact h

theorem valuesSound_recallDoneStep {s : State} (h : ValuesSound s) : ValuesSound (recallDoneStep s) := by
  unfold recallDoneStep
  split
  · refine ((h.setTables (BanksSound.setOther ?_ _)).setStore _).raise ..
    split
    · exact BanksSound.withBank h.tables (fieldOk_freshBank _) _ _
    · exact h.tables
  · exact h

theorem valuesSound_eraseEndStep {s : State} (h : ValuesSound s) : ValuesSound (eraseEndStep s) := by
  unfold eraseEndStep
  split
  · exact h.setStore _
  · exact h

theorem valuesSound_storeDoneStep {s : State} (h : ValuesSound s) : ValuesSound (storeDoneStep s) := by
  unfold storeDoneStep
  split
  · exact (h.setStore _).raise ..
  · exact h

/-! ### Commands -/

theorem ValuesSound.reply {s : State} (h : ValuesSound s) (c : CmdCode) (st : Status) (data : List Word) :
    ValuesSound (reply c st data s) := onStored_valuesSound h rfl

/-- R142: a written record has fresh parity. -/
theorem fieldOk_writeRecord {t : TableSetOf Field} (h : ∀ r, fieldOk (t.field r) = true) (table : TableCode)
    (ix : Channel) (vs : List (BitVec 32)) (r : FieldRef) : fieldOk ((writeRecord table ix vs t).field r) = true := by
  rcases field_writeRecord table ix vs t r with same | ⟨_, written⟩
  · rw [same]; exact h r
  · rw [written]; exact fieldOk_freshField _

theorem valuesSound_cmdWriteTable {s : State} (h : ValuesSound s) (p : List Word) :
    ValuesSound (cmdWriteTable p s) := by
  have written (table : TableCode) (ix : Channel) (vs : List (BitVec 32)) :
      BanksSound (writeStandby table ix vs s.tables) :=
    BanksSound.withBank h.tables (fieldOk_writeRecord (h.tables (standbyBank s.tables)) table ix vs) _ false
  unfold cmdWriteTable
  split
  · exact h.reply ..
  · split
    · exact h.reply ..
    · split
      · exact h.reply ..
      · split
        · exact h.reply ..
        · exact onStored_valuesSound (h.setTables (written _ _ _)) rfl

theorem valuesSound_cmdSwapBanks {s : State} (h : ValuesSound s) (p : List Word) :
    ValuesSound (cmdSwapBanks p s) := by
  have now : ValuesSound (swapNow s) := by
    unfold swapNow
    split
    · exact h.reply ..
    · exact (steady_exchangeBanks _).valuesSound (h.reply ..)
  have later (t : Trigger) : ValuesSound (swapLater t s) := by
    unfold swapLater
    split
    · exact h.reply ..
    · exact (h.reply .swapBanks .ok []).setTables (t := { s.tables with pendingX := some t }) h.tables
  unfold cmdSwapBanks
  split
  · split
    · exact now
    split
    · exact later _
    split
    · exact later _
    split
    · exact later _
    · exact h.reply ..
  · exact h.reply ..

theorem valuesSound_cmdCancelSwap {s : State} (h : ValuesSound s) (p : List Word) :
    ValuesSound (cmdCancelSwap p s) := by
  unfold cmdCancelSwap
  split
  · exact (h.reply .cancelSwap .ok []).setTables (t := { s.tables with pendingX := none }) h.tables
  · exact h.reply ..

theorem valuesSound_cmdStartStream {s : State} (h : ValuesSound s) (p : List Word) :
    ValuesSound (cmdStartStream p s) := by
  have noted {t : State} (ht : ValuesSound t) : ValuesSound (noteActive (.stream .startMode) t) :=
    (steady_noteActive t _).valuesSound ht
  have armed : ValuesSound ((reply .startStream .ok [] s).setStream { s.stream with armed := true }) :=
    (steady_setStream ..).valuesSound (h.reply ..)
  unfold cmdStartStream armStart
  split
  · split
    · exact h.reply ..
    · split
      · exact noted (h.reply ..)
      · exact noted armed
  · exact h.reply ..

theorem valuesSound_cmdStopStream {s : State} (h : ValuesSound s) (p : List Word) :
    ValuesSound (cmdStopStream p s) := by
  have reel : ValuesSound (stopReel s) := by
    unfold stopReel
    split
    · exact (steady_noteActive ..).valuesSound (h.reply ..)
    · exact ((steady_noteActive _ _).trans (steady_enterDraining _)).valuesSound (h.reply ..)
  unfold cmdStopStream
  split
  · split
    · exact (steady_setStream ..).valuesSound (h.reply ..)
    · exact reel
    · exact reel
    · exact h.reply ..
  · exact h.reply ..

/-- R61, R70: reading bins is steady. -/
theorem steady_foldl_readBin (ch : Channel) (e : Engine) (f : Nat → BitVec 6) (l : List Nat) (s : State) :
    SteadyWhenSound s (l.foldl (fun t i => readBin ch e (f i) t) s) := by
  induction l generalizing s with
  | nil => exact .refl s
  | cons i l ih => exact (steady_readBin ..).trans (ih _)

theorem valuesSound_cmdReadTemplate {s : State} (h : ValuesSound s) (p : List Word) :
    ValuesSound (cmdReadTemplate p s) := by
  unfold cmdReadTemplate
  split
  · dsimp only
    split
    · exact h.reply ..
    · exact (steady_foldl_readBin ..).valuesSound (h.reply ..)
  · exact h.reply ..

theorem valuesSound_cmdLoadTemplate {s : State} (h : ValuesSound s) (p : List Word) :
    ValuesSound (cmdLoadTemplate p s) := by
  unfold cmdLoadTemplate
  split
  · exact h.reply ..
  · dsimp only
    split
    · exact h.reply ..
    split
    · exact h.reply ..
    · exact (h.reply ..).setCanc (h.bins.loadBins _ _ _ _)

/-- R184: a store's beginning leaves the banks. -/
theorem valuesSound_cmdStoreProfile {s : State} (h : ValuesSound s) (p : List Word) :
    ValuesSound (cmdStoreProfile p s) := by
  unfold cmdStoreProfile
  split
  · split
    · exact h.reply ..
    split
    · exact h.reply ..
    · exact (h.reply ..).setStore _
  · exact h.reply ..

theorem valuesSound_cmdRecallProfile {s : State} (h : ValuesSound s) (p : List Word) :
    ValuesSound (cmdRecallProfile p s) := by
  unfold cmdRecallProfile recallTests
  split
  · split
    · exact h.reply ..
    split
    · exact h.reply ..
    split
    · exact h.reply ..
    split
    · exact h.reply ..
    · exact ((h.reply ..).setTables (t := { s.tables with other := .loading }) h.tables).setStore _
  · exact h.reply ..

theorem valuesSound_runCommand {s : State} (h : ValuesSound s) (c : CmdCode) (p : List Word) :
    ValuesSound (runCommand c p s) := by
  by_cases hc : plainCommand c = true
  · exact onStored_valuesSound h (runCommand_plain hc p s)
  · cases c with
    | writeTable => exact valuesSound_cmdWriteTable h p
    | swapBanks => exact valuesSound_cmdSwapBanks h p
    | cancelSwap => exact valuesSound_cmdCancelSwap h p
    | startStream => exact valuesSound_cmdStartStream h p
    | stopStream => exact valuesSound_cmdStopStream h p
    | readTemplate => exact valuesSound_cmdReadTemplate h p
    | loadTemplate => exact valuesSound_cmdLoadTemplate h p
    | storeProfile => exact valuesSound_cmdStoreProfile h p
    | recallProfile => exact valuesSound_cmdRecallProfile h p
    | softReset =>
      simp only [runCommand, cmdSoftReset]
      split
      · exact valuesSound_softResetNow (h.reply ..)
      · exact h.reply ..
    | _ => exact absurd rfl hc

/-- Every part of the commands' meanings keeps the values that pass their checks. -/
theorem stagesKeep_valuesSound : StagesKeep ValuesSound where
  onStored := onStored_valuesSound
  marker m s h := (steady_deliverMarker s m).valuesSound h
  slot m c _ _ h := valuesSound_streamStep h m c
  command c p _ _ h := valuesSound_runCommand h c p
  linkLost s h := (steady_linkLostStep s).valuesSound h
  armedStart m x _ _ h := valuesSound_armedStartStep h m x
  perfMiss s h := (steady_perfMissStep s).valuesSound h
  normalClose ch s h := (steady_normalCloseStep s ch).valuesSound h
  retirementEnd s h := (steady_retirementEndStep s).valuesSound h
  drainEnd _ h := valuesSound_drainEndStep h
  exchange t s h := (steady_exchangeAt s t).valuesSound h
  operationEnd _ h := h.setStore _
  hardReset _ h := valuesSound_hardValues h
  bootDone _ h := valuesSound_bootDoneStep h
  eraseEnd _ h := valuesSound_eraseEndStep h
  storeDone _ h := valuesSound_storeDoneStep h
  recallDone _ h := valuesSound_recallDoneStep h

/-- Settles O14: every write of a stored value gives it fresh parity, in every part of the commands' meanings. -/
theorem stepKeepsParity : Obligations.StepKeepsParity :=
  fun s t h hs => valuesSound_iff.1 (stagesKeep_valuesSound.stepKeeps s t (valuesSound_iff.2 h) hs)

end Sys2Proof.StreamRing
end

section
/-! START_STREAM and STOP_STREAM (R18, R24, R25). -/

namespace Sys2Proof.StreamRing

open Sys2Proof Sys2Proof.Machine Sys2Proof.Safety Sys2Proof.SampleLink

/-- R18, R24: the readings of start_mode and stop_mode. -/
theorem startStopOf_eq_marker (n : Nat) : startStopOf n = .marker ↔ n = 1 := by
  unfold startStopOf
  split <;> simp_all

/-- R150: a field that fails its check reads as its default. -/
theorem setting_of_failing {s : State} {b : BankId} {r : FieldRef} (h : fieldOk (storedField s b r) = false) :
    setting s b r = (fieldSpec r).dflt := by
  simp [setting, fieldRead, h]

/-- R18: START_STREAM where it is executed. -/
theorem exec_startStream {s : State} (h : Ready s) :
    exec (.startStream []) s = .next (cmdStartStream [] (endAssembly s)) :=
  exec_ready (c := .startStream) (p := []) h (Nat.zero_le _)

/-- R24: STOP_STREAM where it is executed. -/
theorem exec_stopStream {s : State} (h : Ready s) :
    exec (.stopStream []) s = .next (cmdStopStream [] (endAssembly s)) :=
  exec_ready (c := .stopStream) (p := []) h (Nat.zero_le _)

/-- R18: START_STREAM with the link GOOD in IDLE tests start_mode. -/
theorem cmdStartStream_idle {s : State} (hg : s.link.cond = .good) (hi : s.stream.state = .idle) :
    cmdStartStream [] (endAssembly s) =
      if activeSetting s (.stream .startMode) = 1 then noteActive (.stream .startMode) (afterReply s 8 [8])
      else noteActive (.stream .startMode) ((afterReply s 8 [0]).setStream { s.stream with armed := true }) := by
  have tested : ¬ ((endAssembly s).link.cond = .lost ∨ (endAssembly s).stream.state ≠ .idle) := by
    simp [endAssembly, hg, hi]
  simp only [cmdStartStream, if_neg tested, armStart, startStopOf_eq_marker]
  rfl

/-- Settles O23: the tests of R18 in their order; a failing start_mode reads as EITHER, and its read changes
neither the stream nor the command unit. -/
theorem startStreamArms : Obligations.StartStreamArms := by
  intro s h mode
  rw [exec_startStream h]
  refine ⟨fun hr => ?_, fun hg hi hm => ?_, fun hg hi hm ok => ?_, fun hg hi bad => ?_⟩
  · exact congrArg Host.Outcome.next (if_pos hr)
  · have reads : activeSetting s (.stream .startMode) = 1 := hm
    rw [cmdStartStream_idle hg hi, if_pos reads,
      noteActive_of_setting (s := afterReply s 8 [8]) (n := 1) reads (by decide)]
  · have reads : ¬ activeSetting s (.stream .startMode) = 1 := hm
    rw [cmdStartStream_idle hg hi, if_neg reads]
    exact congrArg Host.Outcome.next
      (note_sound (s := (afterReply s 8 [0]).setStream { s.stream with armed := true }) ok)
  · have reads : activeSetting s (.stream .startMode) = 2 := setting_of_failing bad
    rw [cmdStartStream_idle hg hi, if_neg (by omega)]
    have noted := inner_noteActive (.stream .startMode)
      ((afterReply s 8 [0]).setStream { s.stream with armed := true })
    exact ⟨_, rfl, noted.stream, noted.cmd⟩

/-- R24: in a reel STOP_STREAM tests stop_mode. -/
theorem cmdStopStream_reel {s : State} (hr : s.stream.state = .priming ∨ s.stream.state = .running) :
    cmdStopStream [] (endAssembly s) =
      if activeSetting s (.stream .stopMode) = 1 then noteActive (.stream .stopMode) (afterReply s 9 [8])
      else enterDraining (noteActive (.stream .stopMode) (afterReply s 9 [0])) := by
  have reel : cmdStopStream [] (endAssembly s) = stopReel (endAssembly s) := by
    have state : (endAssembly s).stream.state = s.stream.state := rfl
    unfold cmdStopStream
    rcases hr with hs | hs <;> simp only [state, hs]
  simp only [reel, stopReel, startStopOf_eq_marker]
  rfl

/-- A drained detector is made of what the reads leave of it. -/
theorem drainedDetector_inner {s t : State} (h : Inner s t) (ch : Channel) :
    drainedDetector (t.det.get ch) = drainedDetector (s.det.get ch) := by
  obtain ⟨level, splice, _, maxLen⟩ := h.det ch
  simp only [drainedDetector, level, splice, maxLen]

/-- Settles O24: the row of R24 is the read of stop_mode and the entry to DRAINING of R25, whose closes are
`drainDetector_det`. -/
theorem stopStreamDrains : Obligations.StopStreamDrains := by
  intro s h mode reel announced
  rw [exec_stopStream h]
  refine ⟨fun hi => ?_, fun hd => ?_, fun hr hm => ?_, fun hr hm => ?_⟩
  · have state : (endAssembly s).stream.state = .idle := hi
    simp only [cmdStopStream, state]
    rw [← hi]
    rfl
  · have state : (endAssembly s).stream.state = .draining := hd
    simp only [cmdStopStream, state]
    rfl
  · have reads : activeSetting s (.stream .stopMode) = 1 := hm
    rw [cmdStopStream_reel hr, if_pos reads, noteActive_of_setting (s := afterReply s 9 [8]) (n := 1) reads (by decide)]
  · have reads : ¬ activeSetting s (.stream .stopMode) = 1 := hm
    rw [cmdStopStream_reel hr, if_neg reads]
    set u := noteActive (.stream .stopMode) (afterReply s 9 [0]) with hu
    have noted : Inner (afterReply s 9 [0]) u := inner_noteActive ..
    have closes : Closing (enterState .draining u) (enterDraining u) := closing_drainDetector _
    have stream : (enterDraining u).stream = { s.stream with state := .draining } := by
      rw [closes.stream]
      exact congrArg (fun x : Stream => { x with state := StreamState.draining }) noted.stream
    have canc : (enterDraining u).canc = s.canc := (drainDetector_canc _).trans noted.canc
    refine ⟨_, rfl, closes.cmd.trans noted.cmd, stream, fun ch => ?_, closes.ring.trans noted.ring, ?_, ?_, ?_,
      fun ok => ?_⟩
    · exact (drainDetector_det (enterState .draining u) ch).trans (drainedDetector_inner noted ch)
    · rw [canc, closes.power.trans noted.power, closes.link.trans noted.link, closes.film.trans noted.film,
        closes.tracker.trans noted.tracker]
      rfl
    · rw [closes.lastOut.trans noted.lastOut, closes.hiss.trans noted.hiss, closes.tx.trans noted.tx,
        closes.store.trans noted.store, closes.out.trans noted.out]
      rfl
    · rw [closes.bank0.trans noted.bank0, closes.bank1.trans noted.bank1, closes.active.trans noted.active,
        closes.other.trans noted.other, closes.pendingX.trans noted.pendingX]
      rfl
    · have same : u = afterReply s 9 [0] := note_sound ok
      rw [same] at closes ⊢
      refine ⟨closes.raised, fun hc => ?_⟩
      rw [enterDraining, drainDetector_none (s := enterState .draining (afterReply s 9 [0])) hc]
      exact ⟨rfl, rfl, rfl, rfl⟩

end Sys2Proof.StreamRing
end

section
/-! The values that follow the active bank (R34, R53, R54, R93), the soft reset (R163, R182) and the end of the boot
recall (R153, R187). -/

namespace Sys2Proof.StreamRing

open Sys2Proof Sys2Proof.Machine Sys2Proof.Safety Sys2Proof.SampleLink

/-! ### What follows the active bank -/

section

variable {s : State} (h : SoundTables s)

include h

theorem recomputeMains_of_sound : recomputeMains s = s.setCanc (withMainsPeriod (mainsPeriodOf s) s.canc) := by
  have noted : noteMains s = s := by simp only [noteMains, noteActive_of_sound h, ite_self]
  rw [recomputeMains, noted]

theorem recomputeMaxLen_of_sound :
    recomputeMaxLen s = s.setDet (Quad.build fun ch => { s.det.get ch with maxLenEff := maxLenEffOf s ch }) := by
  have noted : eachChannel (fun ch t => noteActive (.chan ch .closeRun) (noteActive (.chan ch .maxLen) t)) s = s :=
    eachChannel_id fun ch => by simp only [noteActive_of_sound h]
  simp only [recomputeMaxLen, noted, Quad.get_build]

/-- R34, R53, R93: L_eff, Pm and max_len_eff under sound tables. -/
theorem settleFromBank_of_sound : settleFromBank s =
    ((s.setStream { s.stream with lEff := activeSetting s (.stream .lookahead) }).setCanc
      (withMainsPeriod (mainsPeriodOf s) s.canc)).setDet (Quad.build fun ch => { s.det.get ch with
        maxLenEff := min (activeSetting s (.chan ch .maxLen))
          (activeSetting s (.stream .lookahead) - activeSetting s (.chan ch .closeRun) - 2) }) := by
  set u := s.setStream { s.stream with lEff := activeSetting s (.stream .lookahead) } with hu
  have settled : settleFromBank s = recomputeMaxLen (recomputeMains u) := by
    rw [settleFromBank, noteActive_of_sound h]
  have sound : SoundTables u := h
  rw [settled, recomputeMains_of_sound sound]
  exact recomputeMaxLen_of_sound (s := u.setCanc _) sound

end

/-- R53, R54: Pm after it is recomputed. -/
theorem withMainsPeriod_mainsPeriod (pm : Nat) (c : Canceller) : (withMainsPeriod pm c).mainsPeriod = pm := by
  unfold withMainsPeriod
  split
  · next same => exact same.symm
  · rfl

/-- R54, R72: phases of 0 stay 0 under every Pm. -/
theorem withMainsPeriod_resetPhases (pm : Nat) (c : Canceller) : withMainsPeriod pm (resetPhases c) =
    { c with perfPhase := Quad.all 0, mainsPhase := Quad.all 0, mainsPeriod := pm } := by
  unfold withMainsPeriod
  split
  · next same => rw [same]; rfl
  · simp only [resetPhases, Quad.get_all, ite_self]
    rfl

/-! ### The soft reset (R163, R182) -/

/-- R121: the slots of the log after a soft reset. -/
theorem logSlot_completeOpenEntries (l : DefectLog) (i : BitVec 8) :
    logSlot (completeOpenEntries l) i = (logSlot l i).map (fun e =>
      if (i - l.readIdx).toNat < l.unread ∧ e.outcome = .stillOpen then { e with outcome := .unrepaired } else e) := by
  have unread : isUnreadSlot l (BitVec.ofNat 8 i.toNat) = decide ((i - l.readIdx).toNat < l.unread) := by
    rw [isUnreadSlot, BitVec.ofNat_toNat, BitVec.setWidth_eq]
  simp only [logSlot, completeOpenEntries, Vector.getElem_mapIdx, unread, decide_eq_true_eq]
  by_cases hu : (i - l.readIdx).toNat < l.unread
  · simp only [hu, true_and, if_true]
  · simp only [hu, false_and, if_false, Option.map_id']

/-- R119, R121: after a soft reset no unread entry is OPEN. -/
theorem completeOpenEntries_closed {l : DefectLog} {k : Nat} (hk : k < l.unread) (h256 : k < 256) {e : LogEntry}
    (he : logSlot (completeOpenEntries l) (l.readIdx + BitVec.ofNat 8 k) = some e) : e.outcome ≠ .stillOpen := by
  have unread : (l.readIdx + BitVec.ofNat 8 k - l.readIdx).toNat < l.unread := by
    have index : (l.readIdx + BitVec.ofNat 8 k - l.readIdx).toNat = k := by
      rw [add_sub_cancel_left, BitVec.toNat_ofNat, Nat.mod_eq_of_lt h256]
    omega
  rw [logSlot_completeOpenEntries] at he
  obtain ⟨old, _, rfl⟩ := Option.map_eq_some_iff.1 he
  split
  · exact nofun
  · next open' => exact fun hc => open' ⟨unread, hc⟩

/-- R186: what a soft reset makes of the store's operation. -/
theorem softStore_op (p : ProfileStore) :
    (softStore p).op = (match p.op with | .recalling _ => .ready | op => op) := by
  unfold softStore
  split <;> simp_all

theorem softStore_slots (p : ProfileStore) : (softStore p).slots = p.slots := by
  unfold softStore
  split <;> rfl

/-- R163: SOFT_RESET where it is executed. -/
theorem exec_softReset {s : State} (h : Ready s) :
    exec (.softReset []) s = .next (softResetNow (afterReply s 21 [0])) :=
  exec_ready (c := .softReset) (p := []) h (Nat.zero_le _)

/-- R182: the soft reset under sound tables. -/
theorem softResetNow_of_sound {s : State} (h : SoundTables s) : softResetNow s =
    raise .resetDone none (some (resetParam 2 s.stream.state s.fault.mode 0))
      ((((softValues s).setStream ⟨.idle, false, activeSetting s (.stream .lookahead), 0⟩).setCanc
        (withMainsPeriod (mainsPeriodOf (softValues s)) (resetPhases s.canc))).setDet
          (Quad.build fun ch => { softDetector (s.det.get ch) with
            maxLenEff := min (activeSetting s (.chan ch .maxLen))
              (activeSetting s (.stream .lookahead) - activeSetting s (.chan ch .closeRun) - 2) })) := by
  have sound : SoundTables (softValues s) := soundTables_of_banks h rfl rfl
  rw [softResetNow, settleFromBank_of_sound sound]
  simp only [softValues, Quad.get_build]
  rfl

/-- Settles O36: the values of `softValues`, with those that follow the active bank behind them. -/
theorem softResetValues : Obligations.SoftResetValues := by
  intro s hr h a pm l
  have sound : SoundTables (afterReply s 21 [0]) := h
  rw [exec_softReset hr, softResetNow_of_sound sound]
  refine ⟨_, rfl, rfl, rfl, rfl, rfl, rfl, rfl, ?_, fun ch => ?_, rfl, rfl, rfl, rfl, rfl,
    logSlot_completeOpenEntries s.log, fun k hk h256 e he => completeOpenEntries_closed hk h256 he,
    softStore_slots s.store, softStore_op s.store, rfl, rfl⟩
  · exact withMainsPeriod_resetPhases ..
  · exact Quad.get_build ..

/-! ### The end of the boot recall (R153, R187) -/

theorem field_defaultImage (r : FieldRef) : defaultImage.field r = BitVec.ofNat 32 (fieldSpec r).dflt := by
  cases r <;> simp [defaultImage, TableSetOf.field, fieldSpec]

/-- R187: the values that fill the banks at a boot. -/
theorem field_bootImage (x : Slot) (r : FieldRef) : (bootImage x).field r =
    if x.valid = true ∧ imageCheck x.image = x.check then clampedTo r (x.image.field r)
    else BitVec.ofNat 32 (fieldSpec r).dflt := by
  simp only [bootImage, checkMatches, Bool.and_eq_true, beq_iff_eq]
  split
  · exact field_clampImage ..
  · exact field_defaultImage r

/-- R187: the boot result. -/
theorem bootResult_eq (x : Slot) : bootResult x =
    if x.valid = true ∧ imageCheck x.image = x.check then 1 else if x.valid then 3 else 2 := by
  by_cases hv : x.valid = true <;> by_cases hc : imageCheck x.image = x.check <;>
    simp [bootResult, checkMatches, hv, hc]

/-- R187: the slots after a boot recall. -/
theorem bootStore_slots (p : ProfileStore) :
    ((bootStore p).slots.c0.valid = true ↔ p.slots.c0.valid = true ∧ imageCheck p.slots.c0.image = p.slots.c0.check) ∧
    ((bootStore p).slots.c1, (bootStore p).slots.c2, (bootStore p).slots.c3) =
      (p.slots.c1, p.slots.c2, p.slots.c3) := by
  have result : bootResult (slotOf p .ch0) =
      if p.slots.c0.valid = true ∧ imageCheck p.slots.c0.image = p.slots.c0.check then 1
      else if p.slots.c0.valid then 3 else 2 := bootResult_eq _
  unfold bootStore
  rw [result]
  by_cases hv : p.slots.c0.valid = true <;> by_cases hc : imageCheck p.slots.c0.image = p.slots.c0.check <;>
    simp [hv, hc, invalidate, withSlot, Quad.set]

/-- R136: a fresh field reads as its value. -/
theorem setting_fresh {s : State} {b : BankId} {r : FieldRef} {v : BitVec 32} (h : storedField s b r = freshField v) :
    setting s b r = v.toNat := by
  rw [setting, h, fieldRead, if_pos (fieldOk_freshField v)]
  rfl

/-- R153: the part with both banks filled at the end of a boot recall. -/
def bootFilled (s : State) : State :=
  (s.setTables ⟨freshBank (bootImage (slotOf s.store .ch0)), freshBank (bootImage (slotOf s.store .ch0)), .b0, .standby,
    none, false, false⟩).setStore (bootStore s.store)

theorem settleFromBank_power (s : State) : (settleFromBank s).power = s.power := by
  have settled (l : Nat) := (kept_recomputeMains ((noteActive (.stream .lookahead) s).setStream
    { (noteActive (.stream .lookahead) s).stream with lEff := l })).trans (kept_recomputeMaxLen _)
  exact (settled _).power.trans (kept_noteActive s _).power

theorem bootDoneStep_eq {s : State} (h : s.store.op = .booting) : bootDoneStep s =
    raise .resetDone none (some (resetParam (causeNum s.power.cause) s.power.priorStream s.power.priorMode
      (bootResult (slotOf s.store .ch0)))) (settleFromBank (bootFilled s)) := by
  have power : (settleFromBank (bootFilled s)).power = s.power := settleFromBank_power _
  rw [← power]
  unfold bootDoneStep bootFilled
  simp only [h, State.setTables_store]

theorem storedField_bootFilled (s : State) (b : BankId) (r : FieldRef) :
    storedField (bootFilled s) b r = freshField ((bootImage (slotOf s.store .ch0)).field r) := by
  cases b <;> exact field_freshBank _ r

/-- Settles O58: both banks are filled with `bootImage`, and `settleFromBank` reads them. -/
theorem bootRecallFillsBothBanks : Obligations.BootRecallFillsBothBanks := by
  intro s hl hop x good value read pm l boot cause
  have stored (b : BankId) (r : FieldRef) : storedField (bootFilled s) b r = freshField (value r) :=
    (storedField_bootFilled s b r).trans (congrArg freshField (field_bootImage x r))
  have sound : SoundTables (bootFilled s) := fun b r => by rw [stored]; exact fieldOk_freshField _
  have reads (r : FieldRef) : activeSetting (bootFilled s) r = read r := setting_fresh (stored _ r)
  have result : bootResult (slotOf s.store .ch0) = boot := bootResult_eq x
  have mains : mainsPeriodOf (bootFilled s) = pm := by
    simp only [mainsPeriodOf, reads]
    rfl
  obtain ⟨first, others⟩ := bootStore_slots s.store
  have row : exec .bootRecallDone s = .next (bootDoneStep s) := by
    simp [exec, execBootRecallDone, actWhen, hl]
  rw [row, bootDoneStep_eq hop, settleFromBank_of_sound sound, result]
  simp only [reads, mains]
  refine ⟨_, rfl, ?_, stored, rfl, rfl, withMainsPeriod_mainsPeriod .., ?_, fun ch => Quad.get_build .., rfl, first,
    others, ?_⟩
  · rfl
  · obtain ⟨perf, mains⟩ := withMainsPeriod_templates pm s.canc
    exact Prod.ext perf mains
  · rfl

end Sys2Proof.StreamRing
end

section
/-! Repairs (R32, R96 to R106): the span of the anchors by serial difference, and the fill that they give. -/

namespace Sys2Proof.StreamRing

open Sys2Proof Sys2Proof.Machine Sys2Proof.Safety Sys2Proof.SampleLink

/-! ### Serial differences (R32, R97, R98) -/

/-- R32: among the 2^31 serials from one on, serial differences order as the distances do, across the wrap too. -/
theorem notBefore_offsets (p : Serial) {i j : Nat} (hi : i < 2 ^ 31) (hj : j < 2 ^ 31) :
    notBefore (p + BitVec.ofNat 32 i) (p + BitVec.ofNat 32 j) = decide (i ≤ j) := by
  have difference : (p + BitVec.ofNat 32 j - (p + BitVec.ofNat 32 i)).toNat = (2 ^ 32 - i + j) % 2 ^ 32 := by
    rw [add_sub_add_left_eq_sub, BitVec.toNat_sub, BitVec.toNat_ofNat, BitVec.toNat_ofNat,
      Nat.mod_eq_of_lt (a := i) (by omega), Nat.mod_eq_of_lt (a := j) (by omega)]
  rw [notBefore, difference, decide_eq_decide]
  omega

section

variable (p : Serial) {i : Nat} (hi : i < 2 ^ 31)

include hi

theorem notBefore_add : notBefore p (p + BitVec.ofNat 32 i) = true := by
  have offsets := notBefore_offsets p (i := 0) (by decide) hi
  simpa using offsets

theorem notBefore_sub : notBefore (p - BitVec.ofNat 32 i) p = true := by
  have offset := notBefore_add (p - BitVec.ofNat 32 i) hi
  rwa [sub_add_cancel] at offset

theorem not_notBefore_add (h0 : 0 < i) : notBefore (p + BitVec.ofNat 32 i) p = false := by
  have offsets := notBefore_offsets p (j := 0) hi (by decide)
  simpa [Nat.pos_iff_ne_zero.1 h0] using offsets

theorem not_notBefore_sub (h0 : 0 < i) : notBefore p (p - BitVec.ofNat 32 i) = false := by
  have offset := not_notBefore_add (p - BitVec.ofNat 32 i) hi h0
  rwa [sub_add_cancel] at offset

end

/-! ### Anchors and fills (R99 to R106) -/

theorem anchorValue_eq (c : Option Cell) :
    anchorValue c = c.bind (fun c => if cellOk c = true then some c.val else none) := by
  cases c <;> rfl

/-- R99: the marks of an anchor read. -/
theorem readAnchor_eq (ch : Channel) (p : Serial) (c : Option Cell) (s : State) : readAnchor ch p c s =
    if c.any (fun c => !cellOk c) = true then withEvent .memoryCorrected (some ch) (some (ringParam p))
      { s with ring := reflagged p ch (fun f => { f with memory := true }) s.ring } else s := by
  cases c with
  | none => rfl
  | some c =>
    by_cases ok : cellOk c = true
    · simp [readAnchor, ok]
    · have failing : cellOk c = false := by simpa using ok
      simp only [readAnchor, failing, Option.any_some, Bool.not_false, if_true]
      rfl

/-- R101: between equal anchors the rounded line is constant. -/
theorem interpolate_same (a : Int) (g i : Nat) : interpolate a a g i = a := by
  have slope : (2 * (a - a) * (i : Int) + ((g : Int) + 1)) / (2 * ((g : Int) + 1)) = 0 := by
    rw [sub_self, mul_zero, zero_mul, zero_add]
    exact Int.ediv_eq_zero_of_lt (by omega) (by omega)
  rw [interpolate, slope, add_zero]

/-- R96: a repair is the two anchor reads and the fill. -/
theorem repair_eq (ch : Channel) (first last : Serial) (sp : Span) (s : State) : repair ch first last sp s =
    let read := readAnchor ch (last + 1) (anchorCell s ch sp (last + 1))
      (readAnchor ch (first - 1) (anchorCell s ch sp (first - 1)) s)
    read.setRing (fillDefect ch first last (anchorValue (anchorCell s ch sp (first - 1)))
      (anchorValue (anchorCell s ch sp (last + 1))) read.ring) := rfl

theorem repairResult_eq (s : State) (ch : Channel) (first last : Serial) (sp : Span) :
    repairResult s ch first last sp = repairOutcome (anchorValue (anchorCell s ch sp (first - 1)))
      (anchorValue (anchorCell s ch sp (last + 1))) := rfl

/-- Settles O35: the span by `notBefore_offsets`, and the fill by the two anchors' values. -/
theorem repairFillsFromItsAnchors : Obligations.RepairFillsFromItsAnchors := by
  refine ⟨fun f l p i j hi hj => ⟨?_, ?_, fun h0 => ?_, fun h0 => ⟨?_, ?_⟩, fun s ch sp => rfl⟩, ?_⟩
  · simp [inSpan, notBefore_add f hi, notBefore_offsets f hi hj]
  · simp [inSpan, notBefore_sub l hi]
  · simp [inSpan, not_notBefore_sub f hi h0]
  · simp [inSpan, not_notBefore_add l hi h0]
  · simp [inSpan, not_notBefore_add l hi h0]
  intro s ch first last sp lead trail value marked read g filled repaired held outcome out
  have reads : out = read.setRing (fillDefect ch first last (value lead) (value trail) read.ring) := by
    simp only [out, repair_eq, readAnchor_eq, anchorValue_eq]
    rfl
  have result : outcome = repairOutcome (value lead) (value trail) := by
    simp only [outcome, repairResult_eq, anchorValue_eq]
    rfl
  rw [reads, result]
  refine ⟨fun a b ha hb => ?_, fun b ha hb => ?_, fun a ha hb => ?_, fun ha hb => ?_⟩
  · rw [ha, hb]
    exact ⟨rfl, rfl⟩
  · rw [ha, hb]
    refine ⟨rfl, ?_⟩
    simp only [fillDefect, interpolate_same, BitVec.ofInt_toInt]
    rfl
  · rw [ha, hb]
    exact ⟨rfl, rfl⟩
  · rw [ha, hb]
    exact ⟨rfl, rfl⟩

end Sys2Proof.StreamRing
end

section
/-! Normal closes (R89, R96, R112, R114, R115). -/

namespace Sys2Proof.StreamRing

open Sys2Proof Sys2Proof.Machine Sys2Proof.Safety Sys2Proof.SampleLink

/-! ### The log action of a close leaves the fault unit -/

theorem fault_discardOldest (s : State) : (discardOldest s).fault = s.fault := by
  have counted (l : DefectLog) : (countLogLost (s.setLog l)).fault = s.fault := rfl
  have dropped (ch : Channel) (t : State) : (dropLogIndex ch t).fault = t.fault := rfl
  unfold discardOldest
  dsimp only
  split <;> simp only [apply_ite State.fault, dropped, raise_fault, State.setLog_fault, counted, ite_self]

theorem fault_appendEntry (e : LogEntry) (s : State) : (appendEntry e s).fault = s.fault := by
  simp only [appendEntry, State.setLog_fault, apply_ite State.fault, raise_fault, fault_discardOldest, ite_self]

theorem fault_recordClose (ch : Channel) (o : DefectOutcome) (c : Context) (m : Nat) (s : State) :
    (recordClose ch o c m s).fault = s.fault := by
  unfold recordClose
  split
  · unfold completeEntry
    split <;> rfl
  · simp only [apply_ite State.fault, fault_appendEntry, ite_self]

theorem fault_repair (ch : Channel) (first last : Serial) (sp : Span) (s : State) :
    (repair ch first last sp s).fault = s.fault := by
  have read (p : Serial) (c : Option Cell) (t : State) : (readAnchor ch p c t).fault = t.fault := by
    unfold readAnchor
    split
    · simp only [apply_ite State.fault, raise_fault, State.setRing_fault, ite_self]
    · rfl
  simp only [repair_eq, State.setRing_fault, read]

/-! ### One close (R89) -/

/-- R89: the part whose log action a close makes: an OPEN context is repaired first. -/
def repairedFor (ch : Channel) (c : Context) (sp : Span) (s : State) : State :=
  if c.long then s else repair ch c.first c.last sp s

/-- R89: the outcome of a close. -/
def closeOutcome (ch : Channel) (c : Context) (sp : Span) (s : State) : DefectOutcome :=
  if c.long then .unrepaired else repairResult s ch c.first c.last sp

theorem inner_repairedFor (ch : Channel) (c : Context) (sp : Span) (s : State) : Inner s (repairedFor ch c sp s) := by
  unfold repairedFor
  split
  · exact .refl s
  · exact inner_repair ..

theorem fault_repairedFor (ch : Channel) (c : Context) (sp : Span) (s : State) :
    (repairedFor ch c sp s).fault = s.fault := by
  simp only [repairedFor, apply_ite State.fault, fault_repair, ite_self]

section

variable {s : State} {ch : Channel} {c : Context} (hc : (s.det.get ch).ctx = some c)
  (ok : fieldOk (storedField s c.bank (.stream .logMode)) = true)

include hc ok

/-- R89 steps 1 to 4: one close with log_mode sound. -/
theorem closeOne_of_sound (last : Serial) : closeOne ch last s =
    let sp : Span := ⟨spanStart c (s.det.get ch).hist, last⟩
    clearContext ch (recordClose ch (closeOutcome ch c sp s) c (setting s c.bank (.stream .logMode))
      (repairedFor ch c sp s)) := by
  set sp : Span := ⟨spanStart c (s.det.get ch).hist, last⟩ with hsp
  have inner := inner_repairedFor ch c sp s
  have stored : storedField (repairedFor ch c sp s) c.bank (.stream .logMode) =
      storedField s c.bank (.stream .logMode) := by
    cases c.bank <;> simp only [storedField, bankOf, inner.bank0, inner.bank1]
  have noted : noteInner c.bank (.stream .logMode) (repairedFor ch c sp s) = repairedFor ch c sp s := by
    rw [noteInner, noteWith, stored, if_pos ok]
  have reads : setting (repairedFor ch c sp s) c.bank (.stream .logMode) = setting s c.bank (.stream .logMode) := by
    rw [setting, stored, setting]
  have closes : closeOne ch last s =
      let u := noteInner c.bank (.stream .logMode) (repairedFor ch c sp s)
      clearContext ch (recordClose ch (closeOutcome ch c sp s) c (setting u c.bank (.stream .logMode)) u) := by
    rw [closeOne, hc]
    rfl
  rw [closes, noted]
  dsimp only
  rw [reads]

/-- R89: a normal close with log_mode sound: the mode stays, and no effect follows the log action. -/
theorem normalCloseStep_of_sound (due : c.cleanRun = c.closeRun) : normalCloseStep ch s =
    let sp : Span := ⟨spanStart c (s.det.get ch).hist, newestSerial s⟩
    clearContext ch (recordClose ch (closeOutcome ch c sp s) c (setting s c.bank (.stream .logMode))
      (repairedFor ch c sp s)) := by
  have fault : (closeOne ch (newestSerial s) s).fault = s.fault := by
    rw [closeOne_of_sound hc ok]
    exact (fault_recordClose ..).trans (fault_repairedFor ..)
  have stays : ¬ (s.fault.mode = .normal ∧ (closeOne ch (newestSerial s) s).fault.mode ≠ .normal) := by
    rw [fault]
    exact fun hm => hm.2 hm.1
  have step : normalCloseStep ch s = closeContext ch (newestSerial s) s := by
    rw [normalCloseStep, hc]
    exact if_pos due
  have closes : closeContext ch (newestSerial s) s = closeOne ch (newestSerial s) s := if_neg stays
  rw [step, closes, closeOne_of_sound hc ok]

end

/-! ### The entry of a close (R112, R114, R115) -/

/-- R115: an append to a log with room. -/
theorem appendEntry_room {s : State} (h : s.log.unread < 256) (e : LogEntry) : appendEntry e s = appended e s := by
  have room : ¬ s.log.unread = Config.logSlots := Nat.ne_of_lt h
  unfold appendEntry appended
  dsimp only
  rw [if_neg room]
  by_cases h128 : s.log.writeIdx = 128
  · rw [if_pos h128, if_pos h128]
    rfl
  · by_cases hw : s.log.writeIdx = 0 ∧ s.log.appended = true
    · have wraps : (decide (s.log.writeIdx = 0) &&
          (s.setLog (writeSlot s.log.writeIdx e s.log)).log.appended) = true := by
        simpa [writeSlot] using hw
      rw [if_neg h128, if_neg h128, if_pos hw, if_pos wraps]
      rfl
    · have stays : ¬ (decide (s.log.writeIdx = 0) &&
          (s.setLog (writeSlot s.log.writeIdx e s.log)).log.appended) = true := by
        simpa [writeSlot] using hw
      rw [if_neg h128, if_neg h128, if_neg hw, if_neg stays]
      rfl

/-- An append leaves the detectors to what follows it. -/
theorem clearContext_appended (ch : Channel) (e : LogEntry) (s : State) :
    clearContext ch (appended e s) = appended e (clearContext ch s) := by
  have log : (clearContext ch s).log = s.log := rfl
  unfold appended
  dsimp only
  rw [log]
  by_cases h128 : s.log.writeIdx = 128
  · rw [if_pos h128, if_pos h128]
    rfl
  · rw [if_neg h128, if_neg h128]
    by_cases hw : s.log.writeIdx = 0 ∧ s.log.appended = true
    · rw [if_pos hw, if_pos hw]
      rfl
    · rw [if_neg hw, if_neg hw]
      rfl

/-- R96: the bounds of a span by serial difference. -/
theorem inSpan_of_differences {first : Option Serial} {last p : Serial}
    (hf : ∀ f, first = some f → (p - f).toNat < 2 ^ 31) (hl : (last - p).toNat < 2 ^ 31) :
    inSpan ⟨first, last⟩ p = true := by
  have below : notBefore p last = true := decide_eq_true hl
  cases first with
  | none => simpa [inSpan] using below
  | some f =>
    have above : notBefore f p = true := decide_eq_true (hf f rfl)
    simp [inSpan, below, above]

/-- R97, R98: the anchor of a position in the span and in the ring. -/
theorem anchorCell_eq {s : State} {ch : Channel} {sp : Span} {p : Serial} {r : FrameRecord}
    (hs : inSpan sp p = true) (hr : ringFind s.ring p = some r) :
    anchorCell s ch sp p = some (r.entries.get ch).cell := by
  rw [anchorCell, if_pos hs, hr]
  rfl

/-- R99: an anchor that passes its check leaves no mark. -/
theorem readAnchor_of_ok {ch : Channel} {p : Serial} {c : Cell} {s : State} (h : cellOk c = true) :
    readAnchor ch p (some c) s = s := if_pos h

/-- R100, R101: a repair between two sound anchors. -/
theorem repair_between {s : State} {ch : Channel} {first last : Serial} {sp : Span} {a b : Cell}
    (ha : anchorCell s ch sp (first - 1) = some a) (hb : anchorCell s ch sp (last + 1) = some b)
    (oka : cellOk a = true) (okb : cellOk b = true) :
    repairResult s ch first last sp = .repaired ∧ repair ch first last sp s =
      s.setRing (refilled ch first (runLength first last)
        (fun i => BitVec.ofInt 24 (interpolate a.val.toInt b.val.toInt (runLength first last) i))
        (fun f => { f with repaired := true }) s.ring) := by
  have values : anchorValue (some a) = some a.val ∧ anchorValue (some b) = some b.val := ⟨if_pos oka, if_pos okb⟩
  rw [repairResult_eq, repair_eq]
  dsimp only
  rw [ha, hb, readAnchor_of_ok oka, readAnchor_of_ok okb, values.1, values.2]
  exact ⟨rfl, rfl⟩

/-- Settles O41: the normal close is `normalCloseStep_of_sound`; with room the log action is `appendEntry_room`, and
with both anchors sound the repair is `repair_between`. -/
theorem normalCloseRepairsAndLogs : Obligations.NormalCloseRepairsAndLogs := by
  intro s ch c hv hc due ok closed newest start sp mode entry done
  have begins : spanStart c (s.det.get ch).hist = start := by
    simp only [start]
    cases (s.det.get ch).hist <;> rfl
  have row : exec (.normalClose ch) s = .next (done (recordClose ch (closeOutcome ch c sp s) c mode
      (repairedFor ch c sp s))) := by
    have acts : exec (.normalClose ch) s = .next (normalCloseStep ch s) := by
      simp [exec, execNormalClose, actWhen, hv]
    rw [acts, normalCloseStep_of_sound hc ok due, begins]
    rfl
  have long (hl : c.long = true) : closeOutcome ch c sp s = .unrepaired ∧ repairedFor ch c sp s = s :=
    ⟨if_pos hl, if_pos hl⟩
  have short (hl : c.long = false) : closeOutcome ch c sp s = repairResult s ch c.first c.last sp ∧
      repairedFor ch c sp s = repair ch c.first c.last sp s := by
    simp [closeOutcome, repairedFor, hl]
  have appends (o : DefectOutcome) (u : State) (hi : c.logIdx = none) (hm : mode = 0)
      (room : s.log.unread < 256) (log : u.log = s.log) :
      done (recordClose ch o c mode u) = appended (entry o) (done u) := by
    have action : recordClose ch o c mode u = appendEntry (entry o) u := by
      rw [recordClose, hi]
      exact if_pos hm
    rw [action, appendEntry_room (by rwa [log])]
    exact clearContext_appended ch (entry o) u
  rw [row]
  refine ⟨fun hl => ?_, fun hl => ?_, fun hl hi hm room => ?_,
    fun ra rb hl hi hm room bounds near far hra hrb oka okb => ?_⟩
  · rw [(long hl).1, (long hl).2]
  · rw [(short hl).1, (short hl).2]
  · rw [(long hl).1, (long hl).2, appends _ _ hi hm room rfl]
  · have lead := anchorCell_eq (ch := ch) (inSpan_of_differences (fun st h => (bounds st h).1) near) hra
    have trail := anchorCell_eq (ch := ch) (inSpan_of_differences (fun st h => (bounds st h).2) far) hrb
    obtain ⟨outcome, ring⟩ := repair_between lead trail oka okb
    rw [(short hl).1, (short hl).2, outcome, ring, appends _ _ hi hm room]
    · rfl
    · rfl

end Sys2Proof.StreamRing
end

section
/-! Stream starts (R19, R20, R42, R43, R51, R58, R69, R81, R133): the start actions, in every state. -/

namespace Sys2Proof.StreamRing

open Sys2Proof Sys2Proof.Machine Sys2Proof.Safety Sys2Proof.SampleLink

/-! ### What the stages of a start leave of the templates and the detectors -/

/-- The templates, the level estimates and the forced-detection counts stand. -/
structure CountsStand (s t : State) : Prop where
  perfTpl : t.canc.perfTpl = s.canc.perfTpl
  mainsTpl : t.canc.mainsTpl = s.canc.mainsTpl
  level : ∀ ch, (t.det.get ch).level = (s.det.get ch).level
  spliceCount : ∀ ch, (t.det.get ch).spliceCount = (s.det.get ch).spliceCount
  commandCount : ∀ ch, (t.det.get ch).commandCount = (s.det.get ch).commandCount

theorem CountsStand.refl (s : State) : CountsStand s s := ⟨rfl, rfl, fun _ => rfl, fun _ => rfl, fun _ => rfl⟩

theorem CountsStand.trans {s t u : State} (a : CountsStand s t) (b : CountsStand t u) : CountsStand s u :=
  ⟨b.perfTpl.trans a.perfTpl, b.mainsTpl.trans a.mainsTpl, fun ch => (b.level ch).trans (a.level ch),
    fun ch => (b.spliceCount ch).trans (a.spliceCount ch), fun ch => (b.commandCount ch).trans (a.commandCount ch)⟩

theorem CountsStand.of_inner {s t : State} (h : Inner s t) : CountsStand s t :=
  ⟨by rw [h.canc], by rw [h.canc], fun ch => (h.det ch).1, fun ch => (h.det ch).2.1, fun ch => (h.det ch).2.2.1⟩

theorem CountsStand.of_units {s t : State} (h : (t.canc, t.det) = (s.canc, s.det)) : CountsStand s t := by
  obtain ⟨canc, det⟩ := Prod.mk.inj h
  constructor <;> simp [canc, det]

section

variable (s : State)

theorem inner_noteMains : Inner s (noteMains s) := by
  unfold noteMains
  dsimp only
  split <;> exact (inner_noteActive ..).trans (inner_noteActive ..)

theorem countsStand_recomputeMains : CountsStand s (recomputeMains s) := by
  have noted := CountsStand.of_inner (inner_noteMains s)
  obtain ⟨perf, mains⟩ := withMainsPeriod_templates (mainsPeriodOf s) (noteMains s).canc
  exact ⟨perf.trans noted.perfTpl, mains.trans noted.mainsTpl, noted.level, noted.spliceCount, noted.commandCount⟩

theorem countsStand_setMaxLen (f : Channel → Nat) :
    CountsStand s (s.setDet (Quad.build fun ch => { s.det.get ch with maxLenEff := f ch })) :=
  ⟨rfl, rfl, fun ch => by simp, fun ch => by simp, fun ch => by simp⟩

theorem countsStand_recomputeMaxLen : CountsStand s (recomputeMaxLen s) := by
  have noted := CountsStand.of_inner (inner_eachChannel (fun ch t =>
    (inner_noteActive (.chan ch .maxLen) t).trans (inner_noteActive (.chan ch .closeRun) _)) s)
  exact noted.trans (countsStand_setMaxLen _ _)

theorem countsStand_exchangeAt (t : Trigger) : CountsStand s (exchangeAt t s) := by
  have exchanged : CountsStand s (s.setTables (exchangedTables s)) := .of_units rfl
  unfold exchangeAt
  split
  · exact ((exchanged.trans (countsStand_recomputeMains _)).trans (countsStand_recomputeMaxLen _)).trans
      (.of_inner (inner_raise ..))
  · exact .refl s

theorem inner_noteLookahead : Inner s (noteLookahead s) := by
  unfold noteLookahead
  refine ((inner_noteActive _ s).trans (inner_noteActive ..)).trans (inner_eachChannel (fun ch t => ?_) _)
  dsimp only
  split
  · split
    · exact (inner_noteActive ..).trans ((inner_noteActive ..).trans (inner_noteActive ..))
    · exact inner_noteActive ..
  · exact .refl t

theorem countsStand_startBegun : CountsStand s (startBegun s) := by
  unfold startBegun
  refine ((countsStand_exchangeAt s .streamStart).trans (.of_inner (inner_noteLookahead _))).trans ?_
  exact .of_units rfl

/-! ### The exchange of a start (R20, R146) -/

/-- R20: the bank that is active once the exchange that waits for a start is made. -/
def startBank : BankId :=
  if s.tables.pendingX = some .streamStart then s.tables.active.opposite else s.tables.active

/-- R146, R147: an exchange leaves what the stages leave of its tables. -/
theorem kept_exchangeAt (t : Trigger) : Kept
    (s.setTables (if s.tables.pendingX = some t then exchangedTables s else s.tables)) (exchangeAt t s) := by
  unfold exchangeAt
  split
  · exact kept_exchangeBanks s
  · exact .refl s

theorem active_exchangeAt : (exchangeAt .streamStart s).tables.active = startBank s := by
  rw [(kept_exchangeAt s .streamStart).active, startBank]
  simp only [State.setTables_tables, apply_ite Tables.active]
  rfl

/-- R136: an exchange leaves what the banks hold. -/
theorem setting_exchangeAt (t : Trigger) (b : BankId) (r : FieldRef) :
    setting (exchangeAt t s) b r = setting s b r := by
  rw [(kept_exchangeAt s t).setting]
  split <;> cases b <;> rfl

/-- R20: a start leaves these units to its settled values. -/
theorem startBegun_units : (startBegun s).power = s.power ∧ (startBegun s).film = s.film ∧
    (startBegun s).tracker = s.tracker ∧ (startBegun s).cmd = s.cmd ∧ (startBegun s).tx = s.tx ∧
    (startBegun s).store = s.store ∧ (startBegun s).link = { s.link with lastAccepted := Quad.all 0 } := by
  have noted := (kept_exchangeAt s .streamStart).trans (kept_noteLookahead _)
  refine ⟨noted.power, noted.film, noted.tracker, noted.cmd, noted.tx, noted.store, ?_⟩
  exact congrArg (fun x : Link => { x with lastAccepted := Quad.all 0 }) noted.link

end

/-! ### Detectors at a start (R43, R81, R94) -/

/-- No context is open and every history is empty. -/
structure Rested (s : State) : Prop where
  detectors : ∀ ch, (s.det.get ch).hist = .empty ∧ (s.det.get ch).ctx = none

namespace Rested

variable {s : State} (h : Rested s)

include h

theorem of_det {t : State} (hd : t.det = s.det) : Rested t := ⟨by rw [hd]; exact h.detectors⟩

/-- R91, R178: where nothing is open the mode leaving NORMAL closes nothing. -/
theorem leaveNormal : Rested (leaveNormal s) := by
  have nothing : eachChannel (fun ch t => closeOne ch (newestSerial t) t) s = s :=
    eachChannel_id fun ch => by simp [closeOne, (h.detectors ch).2]
  unfold Machine.leaveNormal bypassCloses
  rw [nothing]
  split
  · exact h.of_det rfl
  · exact ⟨fun ch => by simp [emptyHistories, (h.detectors ch).2]⟩

theorem takeFault (k : FaultKind) (ch : Option Channel) (e : Option Engine) : Rested (takeFault k ch e s) := by
  unfold Machine.takeFault takeFaultWith
  dsimp only
  split
  · set u := notePolicy k (Machine.raise .fault ch (some (faultParam k e))
      (s.setFault { s.fault with capture := some (captureOf s k ch e) })) with hu
    have noted : Rested u := by
      rw [hu]
      unfold notePolicy
      split <;> exact h.of_det rfl
    split
    · exact leaveNormal (noted.of_det (t := withMode .bypass u) rfl)
    · exact noted
  · have latched : Rested (withMode .latched s) := h.of_det rfl
    split
    · exact latched.leaveNormal.of_det rfl
    · exact latched.of_det rfl

theorem note (b : BankId) (r : FieldRef) : Rested (note b r s) := by
  unfold Machine.note noteWith
  split
  · exact h
  split
  · exact h
  · exact takeFault (h.of_det (t := s.setTables (withTableFault s.tables b true)) rfl) ..

end Rested

theorem rested_eachNoteActive {s : State} (h : Rested s) (f : Channel → FieldRef) :
    Rested (eachChannel (fun ch t => noteActive (f ch) t) s) :=
  eachChannel_keeps (P := Rested) (fun _ _ ht => ht.note ..) h

theorem rested_recomputeMaxLen {s : State} (h : Rested s) : Rested (recomputeMaxLen s) := by
  have noted : Rested (eachChannel
      (fun ch t => noteActive (.chan ch .closeRun) (noteActive (.chan ch .maxLen) t)) s) :=
    eachChannel_keeps (P := Rested) (fun _ _ ht => (ht.note ..).note ..) h
  refine ⟨fun ch => ?_⟩
  simp only [recomputeMaxLen, State.setDet_det, Quad.get_build]
  exact noted.detectors ch

theorem rested_startDetector (loaded : Nat) (s : State) : Rested (startDetector loaded s) := by
  exact ⟨fun ch => by simp [startDetector]⟩

theorem startCanceller_det (s : State) : (startCanceller s).det =
    (eachChannel (fun ch t => noteActive (.chan ch .keepTemplates) t) s).det := by
  simp only [startCanceller, State.setCanc_det]

section

variable (m : Marker) (s : State)

/-- R43, R81: the splice counts that survive a start are those its own SPLICE loaded. -/
theorem inMask_spliceLoaded (ch : Channel) : inMask (spliceLoaded m s) ch = true ↔
    m = .splice ∧ inMask (setting s s.tables.active (.stream .channelMask)) ch = true := by
  unfold spliceLoaded
  split
  · next hm => simp [hm, activeSetting]
  · next hm => simp [hm, inMask]

/-- R20, R43, R81, R94: a channel's detector at a start. -/
theorem startActed_det (ch : Channel) :
    ((startActed m s).det.get ch).level = (s.det.get ch).level ∧
    ((startActed m s).det.get ch).spliceCount =
      (if m = .splice ∧ inMask (setting s s.tables.active (.stream .channelMask)) ch = true
        then (s.det.get ch).spliceCount else 0) ∧
    ((startActed m s).det.get ch).commandCount = 0 ∧
    ((startActed m s).det.get ch).hist = .empty ∧ ((startActed m s).det.get ch).ctx = none := by
  have begun := countsStand_startBegun s
  have lengths := countsStand_recomputeMaxLen (startDetector (spliceLoaded m s) (startBegun s))
  obtain ⟨level, splice, command, _⟩ := (inner_keepReads
    (recomputeMaxLen (startDetector (spliceLoaded m s) (startBegun s)))).det ch
  have lengthened := rested_recomputeMaxLen (rested_startDetector (spliceLoaded m s) (startBegun s))
  have rested := rested_eachNoteActive lengthened (fun ch => .chan ch .keepTemplates)
  rw [startActed, startCanceller_det]
  refine ⟨(level.trans (lengths.level ch)).trans ?_, (splice.trans (lengths.spliceCount ch)).trans ?_,
    (command.trans (lengths.commandCount ch)).trans ?_, rested.detectors ch⟩
  · simp [startDetector, begun.level]
  · simp only [startDetector, State.setDet_det, Quad.get_build, begun.spliceCount, inMask_spliceLoaded]
  · simp [startDetector]

/-! ### The canceller at a start (R58, R69) -/

/-- R69: what stands of the banks tells which templates a start keeps. -/
theorem binCell_startActed (ch : Channel) (e : Engine) (b : BitVec 6) : binCell (startActed m s).canc ch e b =
    if setting s (startBank s) (.chan ch .keepTemplates) = 0 then freshCell 0 else binCell s.canc ch e b := by
  set u := recomputeMaxLen (startDetector (spliceLoaded m s) (startBegun s)) with hu
  have begun := countsStand_startBegun s
  have lengths := countsStand_recomputeMaxLen (startDetector (spliceLoaded m s) (startBegun s))
  have bins : binCell u.canc ch e b = binCell s.canc ch e b :=
    binCell_of_templates (lengths.perfTpl.trans begun.perfTpl) (lengths.mainsTpl.trans begun.mainsTpl) ch e b
  have kept : Kept (startBegun s) u := (kept_setDet ..).trans (kept_recomputeMaxLen _)
  have stands := (ringStands_startBegun s).trans (.of_kept kept)
  have active : u.tables.active = startBank s := stands.active.trans (active_exchangeAt s)
  have reads : setting u (startBank s) (.chan ch .keepTemplates) =
      setting s (startBank s) (.chan ch .keepTemplates) := by
    rw [setting, stands.storedField]
    exact setting_exchangeAt s .streamStart _ _
  have acted : startActed m s = startCanceller u := rfl
  rw [acted, binCell_startCanceller, bins, keepsTemplates, active, isSet, reads]
  by_cases hk : setting s (startBank s) (.chan ch .keepTemplates) = 0
  · simp [hk]
  · simp [hk]

/-! ### The start as a whole -/

/-- R20: the values a start settles. -/
theorem startSettled_values : (startSettled m s).tracker = enterAcquire s.tracker ∧
    (startSettled m s).hiss = Quad.all ⟨0, 0, 4096⟩ ∧ (startSettled m s).lastOut = Quad.all 0 ∧
    (startSettled m s).film = (if m = .splice then s.film else { s.film with guard := 0 }) ∧
    (startSettled m s).link = s.link ∧ (startSettled m s).det = s.det ∧ (startSettled m s).canc = s.canc ∧
    (startSettled m s).fault = s.fault ∧ (startSettled m s).events = s.events := by
  unfold startSettled
  dsimp only
  split <;> exact ⟨rfl, rfl, rfl, rfl, rfl, rfl, rfl, rfl, rfl⟩

end

end Sys2Proof.StreamRing
end

section
/-! An armed start (R19, R20): the stream, its first record and the events, with sound tables in range. -/

namespace Sys2Proof.StreamRing

open Sys2Proof Sys2Proof.Machine Sys2Proof.Safety Sys2Proof.SampleLink

/-! ### The start actions in every state (R20) -/

section

variable (m : Marker) (s : State)

/-- R20: what stands of the tables and the stream at a start. -/
theorem startStreamNow_bank : (startStreamNow m s).tables.active = startBank s :=
  (ringStands_startStreamNow m s).active.trans (active_exchangeAt s)

theorem startStreamNow_stream : (startStreamNow m s).stream =
    ⟨.priming, false, startLookahead (exchangeAt .streamStart s), 0⟩ := (ringStands_startStreamNow m s).stream

theorem startStreamNow_tracker : (startStreamNow m s).tracker = ⟨.acquire, s.tracker.period, 0, 0, false⟩ := by
  obtain ⟨tracker, _⟩ := startSettled_values m (startActed m s)
  obtain ⟨_, _, same, _⟩ := startBegun_units s
  rw [startStreamNow_eq, tracker, (kept_startActed m s).tracker, same, enterAcquire]

theorem startStreamNow_outputs : ((startStreamNow m s).lastOut, (startStreamNow m s).hiss, (startStreamNow m s).link) =
    (Quad.all 0, Quad.all ⟨0, 0, 4096⟩, { s.link with lastAccepted := Quad.all 0 }) := by
  obtain ⟨_, hiss, lastOut, _, link, _⟩ := startSettled_values m (startActed m s)
  obtain ⟨_, _, _, _, _, _, same⟩ := startBegun_units s
  rw [startStreamNow_eq, hiss, lastOut, link, (kept_startActed m s).link, same]

theorem startStreamNow_film :
    (startStreamNow m s).film = if m = .splice then s.film else { s.film with guard := 0 } := by
  obtain ⟨_, _, _, film, _⟩ := startSettled_values m (startActed m s)
  obtain ⟨_, same, _⟩ := startBegun_units s
  rw [startStreamNow_eq, film, (kept_startActed m s).film, same]

theorem startStreamNow_det : (startStreamNow m s).det = (startActed m s).det := by
  obtain ⟨_, _, _, _, _, det, _⟩ := startSettled_values m (startActed m s)
  rw [startStreamNow_eq, det]

theorem startStreamNow_canc : (startStreamNow m s).canc = (startActed m s).canc := by
  obtain ⟨_, _, _, _, _, _, canc, _⟩ := startSettled_values m (startActed m s)
  rw [startStreamNow_eq, canc]

theorem startActed_phases :
    ((startActed m s).canc.perfPhase, (startActed m s).canc.mainsPhase) = (Quad.all 0, Quad.all 0) := by
  simp only [startActed, startCanceller, State.setCanc_canc]

end

/-! ### A start with sound tables (R20, R21, R146) -/

section

variable {s : State} (h : SoundTables s)

include h

/-- R54, R93: with sound tables Pm and max_len_eff are computed without an event. -/
theorem recomputed_units :
    ((recomputeMaxLen (recomputeMains s)).tables, (recomputeMaxLen (recomputeMains s)).film,
      (recomputeMaxLen (recomputeMains s)).events) = (s.tables, s.film, s.events) := by
  have sound : SoundTables (s.setCanc (withMainsPeriod (mainsPeriodOf s) s.canc)) := h
  rw [recomputeMains_of_sound h, recomputeMaxLen_of_sound sound]
  rfl

/-- R146: the one event of an exchange with sound tables. -/
theorem events_exchangeBanks : (exchangeBanks s).events = takeRaising ⟨.swapDone, none, s.film.tag, s.film.offset,
    some (BitVec.ofNat 32 s.tables.active.opposite.num)⟩ s.events := by
  have sound : SoundTables (s.setTables (exchangedTables s)) := h
  have units := recomputed_units sound
  simp only [Prod.mk.injEq] at units
  obtain ⟨tables, film, events⟩ := units
  simp only [exchangeBanks, raise_events, eventRecord, tables, film, events, State.setTables_tables,
    State.setTables_film, State.setTables_events]
  rfl

/-- R20, R27: the events of a start with sound tables, in order. -/
theorem events_startBegun : (startBegun s).events =
    takeRaising ⟨.streamState, none, s.film.tag, s.film.offset, some 1⟩
      (if s.tables.pendingX = some .streamStart then takeRaising ⟨.swapDone, none, s.film.tag, s.film.offset,
        some (BitVec.ofNat 32 (startBank s).num)⟩ s.events else s.events) := by
  have exchanged := kept_exchangeAt s .streamStart
  have sound : SoundTables (exchangeAt .streamStart s) :=
    ((steady_exchangeAt s .streamStart).steady h).soundTables h
  have noted : noteLookahead (exchangeAt .streamStart s) = exchangeAt .streamStart s := by
    simp only [noteLookahead, noteActive_of_sound sound]
    exact eachChannel_id fun _ => by simp only [noteActive_of_sound sound, ite_self]
  have events : (exchangeAt .streamStart s).events =
      if s.tables.pendingX = some .streamStart then takeRaising ⟨.swapDone, none, s.film.tag, s.film.offset,
        some (BitVec.ofNat 32 (startBank s).num)⟩ s.events else s.events := by
    unfold exchangeAt startBank
    split
    · exact events_exchangeBanks h
    · rfl
  have film : (exchangeAt .streamStart s).film = s.film := exchanged.film
  have begun : (startBegun s).events = takeRaising ⟨.streamState, none, (exchangeAt .streamStart s).film.tag,
      (exchangeAt .streamStart s).film.offset, some 1⟩ (exchangeAt .streamStart s).events := by
    unfold startBegun
    rw [noted]
    rfl
  rw [begun, film, events]

/-- R136, R150: with sound tables a start takes no fault. -/
theorem fault_startStreamNow (m : Marker) : (startStreamNow m s).fault = s.fault := by
  set v := recomputeMaxLen (startDetector (spliceLoaded m s) (startBegun s)) with hv
  have steady : Steady s v :=
    ((steady_startBegun s).trans ((steady_setDet ..).trans (steady_recomputeMaxLen _))).steady h
  have reads := ((steady_eachChannel (fun ch t => steady_noteActive t (.chan ch .keepTemplates)) v).steady
    (steady.soundTables h)).fault
  obtain ⟨_, _, _, _, _, _, _, fault, _⟩ := startSettled_values m (startActed m s)
  have acted : startActed m s = startCanceller v := rfl
  rw [startStreamNow_eq, fault, acted, startCanceller, State.setCanc_fault, reads, steady.fault]

theorem soundTables_startStreamNow (m : Marker) : SoundTables (startStreamNow m s) := by
  intro b r
  have exchanged := kept_exchangeAt s .streamStart
  rw [(ringStands_startStreamNow m s).storedField]
  exact ((steady_exchangeAt s .streamStart).steady h).soundTables h b r

end

/-- R20: the events of a start stand before those of what it settles. -/
theorem raised_startStreamNow (m : Marker) (s : State) :
    RaisedAfter (startBegun s).events (startStreamNow m s).events := by
  obtain ⟨_, _, _, _, _, _, _, _, events⟩ := startSettled_values m (startActed m s)
  rw [startStreamNow_eq, events]
  exact (kept_startActed m s).raised

/-- R21: the effective lookahead at a start, by the bank that is then active. -/
theorem startLookahead_exchangeAt (s : State) (term : Channel → Nat) (ht : ∀ ch, term ch =
    if inMask (setting s (startBank s) (.stream .channelMask)) ch = true ∧
      setting s (startBank s) (.chan ch .clickEnable) ≠ 0
    then setting s (startBank s) (.chan ch .maxLen) + setting s (startBank s) (.chan ch .closeRun) + 2 else 0) :
    startLookahead (exchangeAt .streamStart s) = min 1024 (max (setting s (startBank s) (.stream .lookahead))
      (max (max (term .ch0) (term .ch1)) (max (term .ch2) (term .ch3)))) := by
  have terms (ch : Channel) : channelTerm (exchangeAt .streamStart s) ch = term ch := by
    rw [ht]
    simp only [channelTerm, selected, isSet, activeSetting, active_exchangeAt, setting_exchangeAt,
      Bool.and_eq_true, bne_iff_ne]
  simp only [startLookahead, terms, activeSetting, active_exchangeAt, setting_exchangeAt]
  rfl

/-! ### The first admission (R28, R30) -/

/-- R30: with sound tables an admission takes no fault and leaves the bins that pass their checks. -/
theorem admitRecord_steady {s : State} (h : SoundTables s) (m : Marker) (stamp : BitVec 16)
    (samples : Option (Quad Sample)) : (admitRecord m stamp samples s).fault = s.fault ∧
    SoundTables (admitRecord m stamp samples s) ∧
    ∀ ch e b, cellOk (binCell s.canc ch e b) = true →
      binCell (admitRecord m stamp samples s).canc ch e b = binCell s.canc ch e b := by
  have before := (steady_subtracted s m samples).steady h
  have sound : SoundTables (recordPlaced m stamp samples s) := before.soundTables h
  have after := (steady_admitRecord s m stamp samples).steady sound
  refine ⟨after.fault.trans before.fault, after.soundTables sound, fun ch e b ok => ?_⟩
  have bin := before.bins ch e b ok
  have stands : binCell (recordPlaced m stamp samples s).canc ch e b = binCell s.canc ch e b := bin
  rw [after.bins ch e b (by rw [stands]; exact ok), stands]

/-- R22, R23: what follows the first admission of a stream with sound tables. -/
theorem afterAdmission_first {s : State} (h : SoundTables s) (hl : s.ring.length ≠ s.stream.lEff) (m : Marker) :
    afterAdmission m s = if m = .reelEnd ∧ activeSetting s (.stream .stopMode) ≠ 0 then enterDraining s else s := by
  have stays : checkRunning s = s := if_neg fun hc => hl hc.2
  have stops (n : Nat) : startStopOf n ≠ .command ↔ n ≠ 0 := by
    unfold startStopOf
    split <;> simp_all
  unfold afterAdmission
  dsimp only
  rw [noteActive_of_sound h, stays]
  by_cases hm : m = .reelEnd
  · simp only [hm, true_and, if_true, stops]
  · simp [hm]

end Sys2Proof.StreamRing
end

section
/-! The slot that an armed start takes (R19, R20, R27, R30). -/

namespace Sys2Proof.StreamRing

open Sys2Proof Sys2Proof.Machine Sys2Proof.Safety Sys2Proof.SampleLink

/-! ### What the banks hold (R136, R146) -/

theorem setting_of_banks {s t : State} (h0 : t.tables.bank0 = s.tables.bank0) (h1 : t.tables.bank1 = s.tables.bank1)
    (b : BankId) (r : FieldRef) : setting t b r = setting s b r := by
  cases b <;> simp only [setting, storedField, bankOf, h0, h1]

theorem banks_startStreamNow (m : Marker) (s : State) :
    (startStreamNow m s).tables.bank0 = s.tables.bank0 ∧ (startStreamNow m s).tables.bank1 = s.tables.bank1 := by
  have started := ringStands_startStreamNow m s
  have exchanged := kept_exchangeAt s .streamStart
  refine ⟨(started.bank0.trans exchanged.bank0).trans ?_, (started.bank1.trans exchanged.bank1).trans ?_⟩ <;>
    split <;> rfl

/-- R20: a start leaves the ring's records. -/
theorem ring_startStreamNow {s : State} (h : s.ring = []) (m : Marker) : (startStreamNow m s).ring = [] := by
  have started := ringStands_startStreamNow m s
  have exchanged := kept_exchangeAt s .streamStart
  have length : (startStreamNow m s).ring.map recordKey = s.ring.map recordKey := started.ring.trans exchanged.ring
  rw [h] at length
  exact List.map_eq_nil_iff.1 length

theorem startStreamNow_units (m : Marker) (s : State) : (startStreamNow m s).power = s.power ∧
    (startStreamNow m s).cmd = s.cmd ∧ (startStreamNow m s).tx = s.tx ∧ (startStreamNow m s).store = s.store := by
  obtain ⟨power, _, _, cmd, tx, store, _⟩ := startBegun_units s
  have acted := kept_startActed m s
  have settled (u : State) : (startSettled m u).power = u.power ∧ (startSettled m u).cmd = u.cmd ∧
      (startSettled m u).tx = u.tx ∧ (startSettled m u).store = u.store := by
    unfold startSettled
    dsimp only
    split <;> exact ⟨rfl, rfl, rfl, rfl⟩
  obtain ⟨spower, scmd, stx, sstore⟩ := settled (startActed m s)
  rw [startStreamNow_eq]
  exact ⟨(spower.trans acted.power).trans power, (scmd.trans acted.cmd).trans cmd, (stx.trans acted.tx).trans tx,
    (sstore.trans acted.store).trans store⟩

/-! ### The first record (R28, R30) -/

section

variable (m : Marker) (stamp : BitVec 16) (x : Quad Sample) (s : State)

/-- R29, R30: the ring after an admission. -/
theorem ring_admitRecord : (admitRecord m stamp (some x) s).ring.map recordKey =
    s.ring.map recordKey ++ [recordKey (admittedRecord m stamp (some x) s)] := by
  obtain ⟨_, kept⟩ := kept_admission m stamp (some x) s
  rw [kept.ring, placed_ring, List.map_append]
  rfl

/-- R30: what an admission leaves of the other units, and what it makes of the stream and the link. -/
theorem admitRecord_units : let a := admitRecord m stamp (some x) s
    (a.stream = { s.stream with nextSerial := s.stream.nextSerial + 1 } ∧ a.film.tag = s.film.tag ∧
      a.film.offset = s.film.offset ∧ a.link = { s.link with lastAccepted := x } ∧ a.lastOut = s.lastOut ∧
      a.hiss = s.hiss) ∧
    (a.power = s.power ∧ a.cmd = s.cmd ∧ a.tx = s.tx ∧ a.store = s.store) ∧
    (a.tables.bank0 = s.tables.bank0 ∧ a.tables.bank1 = s.tables.bank1 ∧ a.tables.active = s.tables.active) ∧
    RaisedAfter s.events a.events := by
  obtain ⟨x', kept⟩ := kept_admission m stamp (some x) s
  have raised := kept.raised
  have events : (placed (some x) s (admittedRecord m stamp (some x) s) x').events = s.events := by
    simp [placed, placeInRing, beforeRecord_eq]
  have hiss : (placed (some x) s (admittedRecord m stamp (some x) s) x').hiss = s.hiss := by
    simp [placed, placeInRing, beforeRecord_eq]
  have cmd : (placed (some x) s (admittedRecord m stamp (some x) s) x').cmd = s.cmd := by
    simp [placed, placeInRing, beforeRecord_eq]
  have tx : (placed (some x) s (admittedRecord m stamp (some x) s) x').tx = s.tx := by
    simp [placed, placeInRing, beforeRecord_eq]
  rw [events] at raised
  refine ⟨⟨?_, ?_, ?_, ?_, ?_, kept.hiss.trans hiss⟩, ⟨?_, kept.cmd.trans cmd, kept.tx.trans tx, ?_⟩,
    ⟨?_, ?_, ?_⟩, raised⟩
  · rw [kept.stream, placed_stream]
  · rw [kept.film, placed_film]
  · rw [kept.film, placed_film]
  · rw [kept.link, placed_link]; rfl
  · rw [kept.lastOut, placed_lastOut]
  · rw [kept.power, placed_power]
  · rw [kept.store, placed_store]
  · rw [kept.bank0, placed_bank0]
  · rw [kept.bank1, placed_bank1]
  · rw [kept.active, placed_active]

end

/-! ### The slot (R19, R27) -/

/-- R19: an armed start takes its slot. -/
theorem exec_armedStartTaken {s : State} (hv : s.serving = true) (ha : s.stream.armed = true)
    (hi : s.stream.state = .idle) (m : Marker) (x : Quad Sample) : exec (.armedStartTaken m x) s =
    .next (afterAdmission m (admitRecord m s.film.offset (some x)
      (startStreamNow m (countSlot (s.setOut { s.out with slot := idleSlot }))))) := by
  have row : exec (.armedStartTaken m x) s = .next (armedStartStep m x s) := by
    simp [exec, execArmedStartTaken, actWhen, hv]
  have starts : (s.stream.armed && s.stream.state == .idle) = true := by simp [ha, hi]
  rw [row, armedStartStep, if_pos starts]
  rfl

/-- R25: the part that enters DRAINING where `p` holds, before the closes. -/
def drainingIf (p : Prop) [Decidable p] (s : State) : State := if p then enterState .draining s else s

theorem drainingIf_units (p : Prop) [Decidable p] (s : State) :
    (drainingIf p s).stream = { s.stream with state := if p then .draining else s.stream.state } ∧
    (drainingIf p s).events = (if p then
      takeRaising ⟨.streamState, none, s.film.tag, s.film.offset, some 3⟩ s.events else s.events) ∧
    ((drainingIf p s).ring = s.ring ∧ (drainingIf p s).film = s.film ∧ (drainingIf p s).link = s.link ∧
      (drainingIf p s).lastOut = s.lastOut ∧ (drainingIf p s).hiss = s.hiss ∧
      (drainingIf p s).tables = s.tables) ∧
    ((drainingIf p s).power = s.power ∧ (drainingIf p s).cmd = s.cmd ∧ (drainingIf p s).tx = s.tx ∧
      (drainingIf p s).store = s.store) := by
  unfold drainingIf
  split <;> exact ⟨rfl, rfl, ⟨rfl, rfl, rfl, rfl, rfl, rfl⟩, rfl, rfl, rfl, rfl⟩

theorem kept_enterDrainingIf (p : Prop) [Decidable p] (s : State) :
    Kept (drainingIf p s) (if p then enterDraining s else s) := by
  unfold drainingIf
  split
  · exact (closing_drainDetector _).toKept
  · exact .refl s

/-- R29: a record that stands as another has its names. -/
theorem names_of_recordKey {q r : FrameRecord} (h : recordKey q = recordKey r) :
    (q.serial, q.marker, q.tag, q.offset, q.bank, q.processed) =
      (r.serial, r.marker, r.tag, r.offset, r.bank, r.processed) := by
  simp only [recordKey, Prod.mk.injEq] at h
  obtain ⟨serial, marker, tag, offset, bank, processed, _⟩ := h
  rw [serial, marker, tag, offset, bank, processed]

/-- R21, R29: the effective lookahead of a start with the tables in range. -/
theorem startLookahead_started {s : State} (h : TablesInRange s) :
    64 ≤ startLookahead (exchangeAt .streamStart s) := by
  have kept := kept_exchangeAt s .streamStart
  obtain ⟨range0, range1⟩ := tablesInRange_iff.1 h
  refine (startLookahead_inRange (tablesInRange_iff.2 ⟨?_, ?_⟩)).1
  · rw [kept.bank0]
    split <;> exact range0
  · rw [kept.bank1]
    split <;> exact range1

/-- R19 to R21, R28, R30: the stream and the ring once an armed start has admitted its first record. -/
theorem firstAdmission {s : State} (h : SoundTables s) (hr : TablesInRange s) (he : s.ring = []) (m : Marker)
    (stamp : BitVec 16) (x : Quad Sample) :
    let a := admitRecord m stamp (some x) (startStreamNow m s)
    a.stream = ⟨.priming, false, startLookahead (exchangeAt .streamStart s), 1⟩ ∧
    a.ring.map recordKey = [recordKey (admittedRecord m stamp (some x) (startStreamNow m s))] ∧
    a.tables.active = startBank s ∧ (∀ b r, setting a b r = setting s b r) ∧
    afterAdmission m a =
      if m = .reelEnd ∧ setting s (startBank s) (.stream .stopMode) ≠ 0 then enterDraining a else a := by
  intro a
  obtain ⟨⟨stream, _⟩, _, ⟨bank0, bank1, active⟩, _⟩ := admitRecord_units m stamp x (startStreamNow m s)
  obtain ⟨_, sound, _⟩ := admitRecord_steady (soundTables_startStreamNow h m) m stamp (some x)
  obtain ⟨started0, started1⟩ := banks_startStreamNow m s
  have streamNow : a.stream = ⟨.priming, false, startLookahead (exchangeAt .streamStart s), 1⟩ := by
    rw [stream, startStreamNow_stream]
    rfl
  have ring : a.ring.map recordKey = [recordKey (admittedRecord m stamp (some x) (startStreamNow m s))] := by
    rw [ring_admitRecord, ring_startStreamNow he]
    rfl
  have activeNow : a.tables.active = startBank s := active.trans (startStreamNow_bank m s)
  have reads (b : BankId) (r : FieldRef) : setting a b r = setting s b r :=
    (setting_of_banks bank0 bank1 b r).trans (setting_of_banks started0 started1 b r)
  have notFull : a.ring.length ≠ a.stream.lEff := by
    have one : a.ring.length = 1 := by simpa using congrArg List.length ring
    have least := startLookahead_started hr
    rw [one, streamNow]
    exact fun hc => by
      have full : 1 = startLookahead (exchangeAt .streamStart s) := hc
      omega
  refine ⟨streamNow, ring, activeNow, reads, ?_⟩
  rw [afterAdmission_first sound notFull, activeSetting, activeNow, reads]

/-- Settles O39: the slot of an armed start is `startStreamNow`, an admission and what follows it; the start actions
in every state are the lemmas on `startStreamNow`. -/
theorem armedStartTakesTheSlot : Obligations.ArmedStartTakesTheSlot := by
  refine ⟨fun s m x hv ha hi he h hr => ?_, fun s m => ?_⟩
  · intro b term l stops told primed
    set s0 := countSlot (s.setOut { s.out with slot := idleSlot }) with hs0
    have sound : SoundTables s0 := h
    set u := startStreamNow m s0 with hu
    set a := admitRecord m s.film.offset (some x) u with hadm
    obtain ⟨stream, ring, active, _, after⟩ := firstAdmission (s := s0) h hr he m s.film.offset x
    obtain ⟨⟨_, tag, offset, link, lastOut, hiss⟩, ⟨power, cmd, tx, store⟩, _, raised⟩ :=
      admitRecord_units m s.film.offset x u
    obtain ⟨fault, soundA, bins⟩ := admitRecord_steady (soundTables_startStreamNow sound m) m s.film.offset (some x)
    obtain ⟨upower, ucmd, utx, ustore⟩ := startStreamNow_units m s0
    have outputs := startStreamNow_outputs m s0
    simp only [Prod.mk.injEq] at outputs
    obtain ⟨ulastOut, uhiss, ulink⟩ := outputs
    have lookahead : startLookahead (exchangeAt .streamStart s0) = l :=
      startLookahead_exchangeAt s0 term fun _ => rfl
    have film : u.film.tag = s0.film.tag ∧ u.film.offset = s0.film.offset := by
      rw [hu, startStreamNow_film]
      split <;> exact ⟨rfl, rfl⟩
    have followed : afterAdmission m a = if stops then enterDraining a else a := after
    have kept : Kept (drainingIf stops a) (afterAdmission m a) := by
      rw [followed]
      exact kept_enterDrainingIf stops a
    have steady := (steady_afterAdmission a m).steady soundA
    obtain ⟨vstream, vevents, ⟨vring, vfilm, vlink, vlastOut, vhiss, vtables⟩, vpower, vcmd, vtx, vstore⟩ :=
      drainingIf_units stops a
    have keys : (afterAdmission m a).ring.map recordKey = [recordKey (admittedRecord m s.film.offset (some x) u)] := by
      rw [kept.ring, vring]
      exact ring
    obtain ⟨r, ringT, key⟩ := List.map_eq_singleton_iff.1 keys
    have filmT : (afterAdmission m a).film = a.film := by rw [kept.film, vfilm]
    refine ⟨afterAdmission m a, r, exec_armedStartTaken hv ha hi m x, ?_, ringT, ?_, ?_, ?_, ?_, ?_, ?_, ?_, ?_, ?_,
      a.events, ?_, ?_⟩
    · rw [kept.stream, vstream, stream, lookahead]
    · rw [names_of_recordKey key, admittedRecord_names, startStreamNow_stream, film.1, startStreamNow_bank,
        fault_startStreamNow sound]
      rfl
    · rw [kept.active, vtables, active]
      rfl
    · rw [kept.link, vlink, link, ulink]
      rfl
    · rw [filmT, tag, offset, film.1, film.2]
      rfl
    · rw [kept.lastOut, vlastOut, lastOut, ulastOut]
    · rw [kept.hiss, vhiss, hiss, uhiss]
    · rw [steady.fault, fault, fault_startStreamNow sound]
      rfl
    · intro ch e i cleared
      have begun : binCell u.canc ch e i = freshCell 0 := by
        rw [hu, startStreamNow_canc, binCell_startActed]
        exact if_pos cleared
      have admitted : binCell a.canc ch e i = freshCell 0 := by
        rw [bins ch e i (by rw [begun]; exact cellOk_freshCell 0), begun]
      rw [steady.bins ch e i (by rw [admitted]; exact cellOk_freshCell 0), admitted]
    · rw [kept.power, vpower, power, upower, kept.cmd, vcmd, cmd, ucmd, kept.tx, vtx, tx, utx, kept.store, vstore,
        store, ustore]
      rfl
    · have started := raised_startStreamNow m s0
      rw [events_startBegun sound] at started
      exact raisedAfter_trans started raised
    · have closes := kept.raised
      rw [vevents, tag, offset, film.1, film.2] at closes
      exact closes
  · refine ⟨startStreamNow_bank m s, startStreamNow_tracker m s, ?_, fun ch e i => ?_, startStreamNow_outputs m s,
      fun ch => ?_, fun ch => ?_, startStreamNow_film m s, ?_⟩
    · rw [startStreamNow_canc]
      exact startActed_phases m s
    · rw [startStreamNow_canc]
      exact binCell_startActed m s ch e i
    · rw [startStreamNow_det]
      exact (startActed_det m s ch).2.1
    · obtain ⟨level, _, command, hist, ctx⟩ := startActed_det m s ch
      rw [startStreamNow_det, level, command, hist, ctx]
    · rw [startStreamNow_stream]

end Sys2Proof.StreamRing
end

section
/-! P, Pm and the phases (R44 to R56): what the stages leave of them. -/

namespace Sys2Proof.FilmPosition

open Sys2Proof Sys2Proof.Machine Sys2Proof.Safety Sys2Proof.SampleLink Sys2Proof.StreamRing

/-! ### What stands -/

/-- P, Pm and the phases of both engines stand. -/
structure TimingStands (s t : State) : Prop where
  period : t.tracker.period = s.tracker.period
  mainsPeriod : t.canc.mainsPeriod = s.canc.mainsPeriod
  perfPhase : t.canc.perfPhase = s.canc.perfPhase
  mainsPhase : t.canc.mainsPhase = s.canc.mainsPhase

namespace TimingStands

variable {s t u : State}

theorem refl (s : State) : TimingStands s s := ⟨rfl, rfl, rfl, rfl⟩

theorem trans (a : TimingStands s t) (b : TimingStands t u) : TimingStands s u :=
  ⟨b.period.trans a.period, b.mainsPeriod.trans a.mainsPeriod, b.perfPhase.trans a.perfPhase,
    b.mainsPhase.trans a.mainsPhase⟩

theorem ite {p : Prop} [Decidable p] (a : TimingStands s t) (b : TimingStands s u) :
    TimingStands s (if p then t else u) := by
  split <;> assumption

/-- What the reads, the faults and the closes leave. -/
theorem of_inner (h : Inner s t) : TimingStands s t := by
  constructor <;> simp only [h.tracker, h.canc]

/-- An operation on neither the tracker nor the canceller. -/
theorem of_units (h : (t.tracker, t.canc) = (s.tracker, s.canc)) : TimingStands s t := by
  obtain ⟨tracker, canc⟩ := Prod.mk.inj h
  constructor <;> simp only [tracker, canc]

theorem periodsKept (h : TimingStands s t) (k : PeriodsKept s) : PeriodsKept t := by
  unfold PeriodsKept
  rw [h.period, h.mainsPeriod, h.perfPhase, h.mainsPhase]
  exact k

end TimingStands

theorem timingStands_eachChannel {f : Channel → State → State} (h : ∀ c s, TimingStands s (f c s)) (s : State) :
    TimingStands s (eachChannel f s) := (((h _ _).trans (h _ _)).trans (h _ _)).trans (h _ _)

section

variable (s : State)

theorem timingStands_note (b : BankId) (r : FieldRef) : TimingStands s (note b r s) := .of_inner (inner_note ..)

theorem timingStands_noteActive (r : FieldRef) : TimingStands s (noteActive r s) := .of_inner (inner_noteActive ..)

theorem timingStands_raise (k : EventKind) (ch : Option Channel) (p : Option (BitVec 32)) :
    TimingStands s (raise k ch p s) := .of_inner (inner_raise ..)

theorem timingStands_setDetector (ch : Channel) (d : Detector) : TimingStands s (setDetector ch d s) := .of_units rfl

theorem timingStands_setDet (d : Quad Detector) : TimingStands s (s.setDet d) := .of_units rfl

theorem timingStands_setRing (ring : List FrameRecord) : TimingStands s (s.setRing ring) := .of_units rfl

theorem timingStands_setCounters (x : Counters) : TimingStands s (s.setCounters x) := .of_units rfl

/-! ### The templates (R59 to R67, R70, R71) -/

theorem timingStands_writeBin (ch : Channel) (e : Engine) (b : BitVec 6) (v : Sample) :
    TimingStands s (s.setCanc (writeBin ch e b v s.canc)) := by
  cases e <;> exact ⟨rfl, rfl, rfl, rfl⟩

theorem timingStands_readBin (ch : Channel) (e : Engine) (b : BitVec 6) : TimingStands s (readBin ch e b s) :=
  .ite (.refl s) ((timingStands_writeBin s ..).trans (timingStands_raise ..))

theorem timingStands_adaptBin (bank : BankId) (ch : Channel) (e : Engine) (b : BitVec 6) (v : Sample) :
    TimingStands s (adaptBin bank ch e b v s) := by
  unfold adaptBin
  refine TimingStands.trans ?_ (.ite (.of_inner (inner_takeFault ..)) (.refl _))
  exact ((timingStands_note s ..).trans (timingStands_readBin ..)).trans (timingStands_writeBin ..)

theorem timingStands_adaptRecord (r : FrameRecord) (mask : Nat) (checked : Quad Sample) (hp hm : Quad HoldSet) :
    TimingStands s (adaptRecord r mask checked hp hm s) := by
  have engine (active : Bool) (hold : HoldSet) (failed : Bool) (v : Sample) (ch : Channel) (e : Engine) (t : State) :
      TimingStands t (adaptEngine r active hold failed v ch e t) := .ite (timingStands_adaptBin ..) (.refl t)
  exact timingStands_eachChannel (fun _ _ => (engine ..).trans (engine ..)) s

theorem timingStands_subtractMarks (ch : Channel) (x : Sample) (pb mb : BitVec 6) :
    TimingStands s (subtractMarks ch x pb mb s) := by
  unfold subtractMarks
  refine TimingStands.trans ?_ (.ite (timingStands_setCounters ..) (.refl _))
  refine TimingStands.trans ?_ (.ite (timingStands_readBin ..) (.refl _))
  exact ((timingStands_note s ..).trans (timingStands_note ..)).trans (.ite (timingStands_readBin ..) (.refl _))

theorem timingStands_subtractAll (processed accepted : Bool) (x : Quad Sample) :
    TimingStands s (subtractAll processed accepted x s) :=
  timingStands_eachChannel (fun _ _ => .ite (timingStands_subtractMarks ..) (.refl _)) s

theorem timingStands_loadBins (ch : Channel) (e : Engine) (first : Nat) (vs : List Sample) :
    TimingStands s (s.setCanc (loadBins ch e first vs s.canc)) := by
  induction vs generalizing s first with
  | nil => exact .refl s
  | cons v vs ih => exact (timingStands_writeBin s ..).trans (ih (s.setCanc _) (first + 1))

theorem timingStands_readTemplateBins (p : TemplateParam) : TimingStands s (readTemplateBins p s) := by
  unfold readTemplateBins
  generalize List.range (readTemplateCount p) = bins
  induction bins generalizing s with
  | nil => exact .refl s
  | cons i bins ih => exact (timingStands_readBin s ..).trans (ih _)

/-! ### The release (R31) -/

theorem timingStands_emptied (rest : List FrameRecord) : TimingStands s (emptied rest s) := by
  rw [emptied_eq]
  exact .of_units rfl

theorem timingStands_noteHolds (r : FrameRecord) (mask : Nat) : TimingStands s (noteHolds r mask s) :=
  .ite (timingStands_eachChannel (fun _ _ => .ite ((timingStands_note ..).trans (timingStands_note ..)) (.refl _)) s)
    (.refl s)

theorem timingStands_releaseMarks (r : FrameRecord) (mask : Nat) : TimingStands s (releaseMarks r mask s) :=
  timingStands_eachChannel (fun _ _ => .ite (timingStands_raise ..) (.refl _)) s

theorem timingStands_noteHiss (r : FrameRecord) (active failed : Bool) (y : Int) (ch : Channel) :
    TimingStands s (noteHiss r active failed y ch s) := by
  refine .ite ((timingStands_note s ..).trans (.ite ?_ (.refl _))) (.refl s)
  exact ((((timingStands_note ..).trans (timingStands_note ..)).trans (timingStands_note ..)).trans
    (timingStands_note ..)).trans (timingStands_note ..)

theorem timingStands_hissRecord (r : FrameRecord) (mask : Nat) (checked : Quad Sample) :
    TimingStands s (hissRecord r mask checked s) :=
  (timingStands_eachChannel (fun _ _ => timingStands_noteHiss ..) s).trans (.of_units rfl)

theorem timingStands_adapted (r : FrameRecord) (rest : List FrameRecord) : TimingStands s (adapted r rest s) :=
  ((((timingStands_emptied s rest).trans (timingStands_note ..)).trans (timingStands_releaseMarks ..)).trans
    (timingStands_noteHolds ..)).trans (timingStands_adaptRecord ..)

theorem timingStands_release : TimingStands s (release s) := by
  unfold release
  split
  · exact .refl s
  · next r rest _ =>
    exact ((timingStands_adapted s r rest).trans (timingStands_hissRecord ..)).trans (.of_units rfl)

/-! ### The detector (R74 to R91) -/

theorem timingStands_openContext (ch : Channel) (p : Serial) (causes : Causes) (peak : Option Nat) :
    TimingStands s (openContext ch p causes peak s) := by
  unfold openContext
  refine TimingStands.trans ?_ (.ite ((TimingStands.of_inner (inner_appendEntry ..)).trans
    (timingStands_setDetector ..)) (.refl _))
  exact ((timingStands_noteActive s _).trans (timingStands_setDetector ..)).trans (timingStands_note ..)

theorem timingStands_settleFlagged (ch : Channel) (p : Serial) (causes : Causes) (peak : Option Nat) :
    TimingStands s (settleFlagged ch p causes peak s) := by
  unfold settleFlagged
  split
  · exact timingStands_openContext s ..
  · exact (timingStands_setDetector s ..).trans (.ite (timingStands_setCounters ..) (.refl _))

theorem timingStands_settleClean (ch : Channel) (p : Serial) : TimingStands s (settleClean ch p s) := by
  unfold settleClean
  split
  · exact .refl s
  · exact .ite ((timingStands_setDetector s ..).trans (.of_inner (inner_normalCloseStep ..))) (.refl s)

theorem timingStands_evaluateCentre (ch : Channel) (n : Serial) (vn v1 v2 : Sample) :
    TimingStands s (evaluateCentre ch n vn v1 v2 s) := by
  unfold evaluateCentre
  refine ((timingStands_noteActive ..).trans (timingStands_noteActive ..)).trans (.ite ?_ (.ite (.refl _) ?_))
  · exact ((timingStands_setRing ..).trans (timingStands_setCounters ..)).trans (timingStands_settleFlagged ..)
  · exact (timingStands_setDetector ..).trans (timingStands_settleClean ..)

theorem timingStands_applyForced (ch : Channel) (n : Serial) (causes : Causes) :
    TimingStands s (applyForced ch n causes s) :=
  .ite ((timingStands_setRing s _).trans (timingStands_settleFlagged ..)) (.refl s)

theorem timingStands_watchPosition (ch : Channel) (r : FrameRecord) : TimingStands s (watchPosition ch r s) := by
  unfold watchPosition
  refine TimingStands.trans ?_ ((timingStands_setDetector ..).trans (timingStands_setDetector ..))
  refine TimingStands.trans ?_ (timingStands_applyForced ..)
  have read : TimingStands s (if cellOk (r.entries.get ch).cell then s else failedRead ch r.serial s) :=
    .ite (.refl s) ((timingStands_setRing s _).trans (timingStands_raise ..))
  refine read.trans ?_
  generalize (if cellOk (r.entries.get ch).cell then s else failedRead ch r.serial s) = t
  split
  · exact timingStands_evaluateCentre ..
  · exact .refl _

theorem timingStands_skipPosition (ch : Channel) (r : FrameRecord) : TimingStands s (skipPosition ch r s) :=
  (TimingStands.of_inner (inner_closeContext ..)).trans
    ((timingStands_setDetector ..).trans (timingStands_setDetector ..))

theorem timingStands_noteWatched (r : FrameRecord) (ch : Channel) : TimingStands s (noteWatched r ch s) :=
  .ite ((timingStands_noteActive s _).trans (.ite (timingStands_noteActive ..) (.refl _))) (.refl s)

theorem timingStands_detectChannel (r : FrameRecord) (ch : Channel) : TimingStands s (detectChannel r ch s) :=
  (timingStands_noteWatched s r ch).trans (.ite (timingStands_watchPosition ..) (timingStands_skipPosition ..))

theorem timingStands_drainDetector : TimingStands s (drainDetector s) :=
  ((timingStands_eachChannel (fun ch t => .of_inner (inner_closeContext ch (newestSerial t) t)) s).trans
    (timingStands_setDet ..)).trans (timingStands_setDet ..)

/-! ### The stream controller (R20 to R30) -/

theorem timingStands_enterState (st : StreamState) : TimingStands s (enterState st s) := .of_units rfl

theorem timingStands_enterDraining : TimingStands s (enterDraining s) :=
  (timingStands_enterState s _).trans (timingStands_drainDetector _)

theorem timingStands_afterAdmission (m : Marker) : TimingStands s (afterAdmission m s) := by
  have running (t : State) : TimingStands t (checkRunning t) := .ite (timingStands_enterState ..) (.refl t)
  exact .ite ((timingStands_noteActive s _).trans (.ite (timingStands_enterDraining _) (running _))) (running s)

theorem timingStands_recomputeMaxLen : TimingStands s (recomputeMaxLen s) :=
  (timingStands_eachChannel
    (fun _ _ => (timingStands_noteActive ..).trans (timingStands_noteActive ..)) s).trans (timingStands_setDet ..)

theorem timingStands_linkLostStep : TimingStands s (linkLostStep s) := by
  have gone : TimingStands s (linkGone s) := .of_units rfl
  by_cases hl : s.link.cond = .good ∧ s.link.badCount = 256
  · rw [linkLostStep_eq hl.1 hl.2]
    exact .ite (gone.trans (timingStands_enterDraining _)) gone
  · rw [linkLostStep_of_not hl]
    exact .refl s

/-- R48: a miss leaves P. -/
theorem timingStands_perfMissStep : TimingStands s (perfMissStep s) := by
  have missed (limit : Nat) (t : State) : TimingStands t (t.setTracker (missed limit t.tracker)) := ⟨rfl, rfl, rfl, rfl⟩
  exact .ite (((timingStands_noteActive ..).trans (missed ..)).trans (.ite (timingStands_raise ..) (.refl _))) (.refl s)

end

end Sys2Proof.FilmPosition
end

section
/-! One step taken apart for predicates on the chapters' own units, the tracker and the detectors among them. -/

namespace Sys2Proof.FilmPosition

open Sys2Proof Sys2Proof.Machine Sys2Proof.Safety Sys2Proof.SampleLink Sys2Proof.StreamRing

/-! ### Predicates on the chapters' units -/

/-- The units of the chapters without the link, the messages and their counters, the supply and the queue. -/
def chapterUnits (s : State) : (Stream × List FrameRecord × Film × Tracker × Canceller × Quad Detector × Quad Sample) ×
    DefectLog × Quad Hiss × Tables × FaultUnit × ProfileStore × Work × Quad Bool :=
  ((s.stream, s.ring, s.film, s.tracker, s.canc, s.det, s.lastOut),
    s.log, s.hiss, s.tables, s.fault, s.store, s.work, s.upset)

/-- A predicate that rests on these units alone. `OnStored` leaves out the tracker, the detectors and the log. -/
def OnChapters (P : State → Prop) : Prop := ∀ {s t : State}, P s → chapterUnits t = chapterUnits s → P t

section

variable {P : State → Prop} (hP : OnChapters P) (run : ∀ (c : CmdCode) (p : List Word) (s : State), P s → P (runCommand c p s))

include hP run

/-- R158: a closed message changes counters and replies, or is executed. -/
theorem onChapters_closeMessage (a : Assembly) (sumOk : Bool) {s : State} (h : P s) :
    P (closeMessage a sumOk s) := by
  unfold closeMessage
  split
  · exact hP h rfl
  split
  · exact hP h rfl
  split
  · exact hP h rfl
  split
  · exact hP h rfl
  split
  · exact hP h rfl
  split
  · exact hP h rfl
  · exact run _ _ _ h

theorem onChapters_commandStep (c : CmdCode) (p : List Word) {s : State} (h : P s) : P (commandStep c p s) := by
  unfold commandStep
  split
  · exact onChapters_closeMessage hP run _ _ (hP h rfl)
  · exact h

/-- R157: of the control words a CHECK alone can execute a command. -/
theorem onChapters_takeControl (f : Option LinkFrame) {s : State} (h : P s) : P (takeControl f s) := by
  unfold takeControl
  split
  · unfold takeBad
    split
    · exact h
    · exact hP h rfl
  · split
    · exact h
    · unfold takeHead
      dsimp only
      split <;> exact hP h rfl
    · unfold takeBody
      split <;> exact hP h rfl
    · unfold takeCheck
      split
      · exact hP h rfl
      · exact onChapters_closeMessage hP run _ _ (hP h rfl)

end

theorem egressStep_chapters (s : State) : chapterUnits (egressStep s) = chapterUnits s := by
  obtain ⟨w, t, c, e, h⟩ := egressStep_frame s
  rw [h]
  rfl

theorem messageSentStep_chapters (s : State) : chapterUnits (messageSentStep s) = chapterUnits s := by
  obtain ⟨t, c, e, h⟩ := messageSentStep_frame s
  rw [h]
  rfl

/-! ### One step -/

/-- A predicate on the chapters' units that every part of the commands' meanings keeps. -/
structure ChaptersKeep (P : State → Prop) : Prop where
  onChapters : OnChapters P
  marker : ∀ m s, P s → P (deliverMarker m s)
  slot : ∀ m c s, P s → P (streamStep m c s)
  command : ∀ c p s, P s → P (runCommand c p s)
  linkLost : ∀ s, P s → P (linkLostStep s)
  armedStart : ∀ m x s, P s → P (armedStartStep m x s)
  perfMiss : ∀ s, P s → P (perfMissStep s)
  normalClose : ∀ ch s, P s → P (normalCloseStep ch s)
  retirementEnd : ∀ s, P s → P (retirementEndStep s)
  drainEnd : ∀ s, P s → P (drainEndStep s)
  exchange : ∀ t s, P s → P (exchangeAt t s)
  setStore : ∀ p s, P s → P (s.setStore p)
  hardReset : ∀ s, P s → P (hardValues s)
  bootDone : ∀ s, P s → P (bootDoneStep s)
  recallDone : ∀ s, P s → P (recallDoneStep s)

namespace ChaptersKeep

variable {P : State → Prop} (k : ChaptersKeep P) {s : State} (h : P s)

include k h

/-- R6 to R8: step 5 of an arrival. -/
theorem updateLink (c : SlotClass) (before : StreamState) : P (updateLink c before s) := by
  unfold Machine.updateLink
  split
  · apply k.linkLost
    dsimp only
    split <;> exact k.onChapters h rfl
  · unfold linkRestoredStep
    split <;> exact k.onChapters h rfl

/-- R5: the five steps of a served slot and the departing frame. -/
theorem servedArrival (f : Option LinkFrame) : P (servedArrival f s) := by
  unfold Machine.servedArrival
  dsimp only
  refine k.onChapters (k.updateLink (onChapters_takeControl k.onChapters k.command f (k.slot _ _ _ ?_)) ..)
    (egressStep_chapters _)
  refine k.marker _ _ (k.onChapters h ?_)
  unfold classify
  split <;> split <;> rfl

theorem arrivalStep (bits : BitVec 127) : P (arrivalStep bits s) := by
  unfold Machine.arrivalStep
  split
  · exact k.onChapters h rfl
  split
  · exact k.onChapters h rfl
  split
  · refine k.onChapters (onChapters_takeControl k.onChapters k.command _ (k.onChapters h ?_)) (egressStep_chapters _)
    unfold classify
    split <;> rfl
  · exact k.servedArrival h _

theorem assertReset : P (assertReset s) := by
  unfold Machine.assertReset
  split
  · exact h
  split
  · exact k.onChapters (k.setStore (endOperation s.store) _ h) rfl
  · exact k.onChapters h rfl

theorem releaseReset : P (releaseReset s) := by
  unfold Machine.releaseReset
  split
  · dsimp only
    split
    · exact k.hardReset _ (k.onChapters h rfl)
    · exact k.onChapters h rfl
  · exact h

theorem powerUpStep : P (powerUpStep s) := by
  have reset := k.hardReset _ (k.onChapters (t := s.setPower ⟨true, s.power.resetInput, .power, .idle, .normal⟩) h rfl)
  unfold Machine.powerUpStep
  dsimp only
  split
  · exact k.setStore _ _ reset
  · exact reset

theorem powerDownStep : P (powerDownStep s) :=
  k.onChapters (k.setStore (endOperation s.store) _ h) rfl

theorem eraseEndStep : P (eraseEndStep s) := by
  unfold Machine.eraseEndStep
  split
  · exact k.setStore _ _ h
  · exact h

theorem storeDoneStep : P (storeDoneStep s) := by
  unfold Machine.storeDoneStep
  split
  · exact k.onChapters (k.setStore _ _ h) rfl
  · exact h

/-- Every command answers a next state, and keeps what the parts keep. -/
theorem exec (i : Instr) : ∃ t, exec i s = .next t ∧ P t := by
  have acts {p : Bool} {f : State → State} (hf : P (f s)) : ∃ t, actWhen p f s = .next t ∧ P t :=
    StagesKeep.actWhen_keeps h fun _ => hf
  rcases hm : i.message with _ | ⟨c, p⟩
  · cases i with
    | arrival bits => exact ⟨_, rfl, k.arrivalStep h bits⟩
    | armedStartTaken m x => exact acts (k.armedStart m x s h)
    | perfMiss => exact acts (k.perfMiss s h)
    | normalClose ch => exact acts (k.normalClose ch s h)
    | retirementEnd => exact acts (k.retirementEnd s h)
    | drainEnd => exact acts (k.drainEnd s h)
    | linkLost => exact acts (k.linkLost s h)
    | pendingExchange t => exact acts (k.exchange t s h)
    | messageSent => exact acts (k.onChapters h (messageSentStep_chapters s))
    | hardReset => exact ⟨_, rfl, k.assertReset h⟩
    | powerUp => exact acts (k.powerUpStep h)
    | hardResetRelease => exact ⟨_, rfl, k.releaseReset h⟩
    | bootRecallDone => exact acts (k.bootDone s h)
    | storeEraseEnd => exact acts (k.eraseEndStep h)
    | storeDone => exact acts (k.storeDoneStep h)
    | recallDone => exact acts (k.recallDone s h)
    | powerDown => exact ⟨_, rfl, k.powerDownStep h⟩
    | _ => cases hm
  · rw [StagesKeep.eq_instrOfCommand hm, exec_command]
    exact ⟨_, rfl, onChapters_commandStep k.onChapters k.command c p h⟩

omit h in
/-- A step keeps what every part of the commands' meanings keeps. -/
theorem stepKeeps : StepKeeps P := by
  intro s t h hs
  unfold step at hs
  split at hs
  · cases hs; exact h
  · next i rest _ =>
    obtain ⟨u, hu, kept⟩ := k.exec (k.onChapters (t := s.setPending rest) h rfl) i
    rw [hu] at hs
    cases hs
    exact kept

end ChaptersKeep

end Sys2Proof.FilmPosition
end

section
/-! P and Pm within 16 to 16,383 and the phases below them (R45, R46, R53 to R56, R58): every step keeps them. -/

namespace Sys2Proof.FilmPosition

open Sys2Proof Sys2Proof.Machine Sys2Proof.Safety Sys2Proof.SampleLink Sys2Proof.StreamRing

/-! ### Pm (R53, R54) -/

/-- R53: a clamped period lies within 16 to 16,383. -/
theorem mainsPeriodOf_inRange (s : State) : 16 ≤ mainsPeriodOf s ∧ mainsPeriodOf s ≤ 16383 := by
  unfold mainsPeriodOf clampNat Config.periodMin Config.periodMax
  omega

/-- R53, R55: Pm is in range, and the four MAINS phases are one number below it. -/
def MainsFit (c : Canceller) : Prop :=
  (16 ≤ c.mainsPeriod ∧ c.mainsPeriod ≤ 16383) ∧ ∃ m, m < c.mainsPeriod ∧ c.mainsPhase = Quad.all m

theorem withMainsPeriod_perfPhase (pm : Nat) (c : Canceller) : (withMainsPeriod pm c).perfPhase = c.perfPhase := by
  unfold withMainsPeriod
  split <;> rfl

/-- R54: the phase test brings the MAINS phases below a new Pm. -/
theorem mainsFit_withMainsPeriod {pm : Nat} {c : Canceller} (range : 16 ≤ pm ∧ pm ≤ 16383) (h : MainsFit c) :
    MainsFit (withMainsPeriod pm c) := by
  obtain ⟨-, m, below, phases⟩ := h
  unfold withMainsPeriod
  split
  · next same => exact ⟨same ▸ range, m, below, phases⟩
  · refine ⟨range, if m ≥ pm then 0 else m, ?_, ?_⟩
    · change (if m ≥ pm then 0 else m) < pm
      split <;> omega
    · simp only [phases, Quad.get_all]
      rfl

theorem recomputeMains_canc (s : State) : (recomputeMains s).canc = withMainsPeriod (mainsPeriodOf s) s.canc := by
  change withMainsPeriod (mainsPeriodOf s) (noteMains s).canc = _
  rw [(inner_noteMains s).canc]

/-! ### The tracker takes a record (R44 to R54) -/

/-- What stands of the invariant while P may have moved below the PERF phases, which the record sets next. -/
structure PeriodsTracked (s : State) : Prop where
  period : 16 ≤ s.tracker.period ∧ s.tracker.period ≤ 16383
  mains : MainsFit s.canc
  perf : ∃ p, s.canc.perfPhase = Quad.all p

theorem PeriodsTracked.of_kept {s : State} (h : PeriodsKept s) : PeriodsTracked s := by
  obtain ⟨period, mains, ⟨p, -, perf⟩, phases⟩ := h
  exact ⟨period, ⟨mains, phases⟩, p, perf⟩

/-- R55: with the PERF phases below P the invariant is whole. -/
theorem PeriodsTracked.kept {s : State} (h : PeriodsTracked s) {p : Nat} (hp : p < s.tracker.period)
    (perf : s.canc.perfPhase = Quad.all p) : PeriodsKept s :=
  ⟨h.period, h.mains.1, ⟨p, hp, perf⟩, h.mains.2⟩

theorem PeriodsTracked.stands {s t : State} (h : PeriodsTracked s) (k : TimingStands s t) : PeriodsTracked t := by
  obtain ⟨period, mains, perf⟩ := h
  refine ⟨k.period ▸ period, ?_, k.perfPhase ▸ perf⟩
  unfold MainsFit
  rw [k.mainsPeriod, k.mainsPhase]
  exact mains

theorem PeriodsTracked.setTracker {s : State} (h : PeriodsTracked s) {x : Tracker}
    (range : 16 ≤ x.period ∧ x.period ≤ 16383) : PeriodsTracked (s.setTracker x) := ⟨range, h.mains, h.perf⟩

theorem PeriodsTracked.recomputeMains {s : State} (h : PeriodsTracked s) : PeriodsTracked (recomputeMains s) := by
  refine ⟨?_, ?_, ?_⟩
  · rw [(kept_recomputeMains s).tracker]
    exact h.period
  · rw [recomputeMains_canc]
    exact mainsFit_withMainsPeriod (mainsPeriodOf_inRange s) h.mains
  · rw [recomputeMains_canc, withMainsPeriod_perfPhase]
    exact h.perf

/-- R46: the refined period is in range. -/
theorem refinePeriod_inRange (p since : Nat) : 16 ≤ refinePeriod p since ∧ refinePeriod p since ≤ 16383 := by
  unfold refinePeriod clampInt Config.periodMin Config.periodMax
  omega

theorem periodsTracked_acquirePerf {s : State} (h : PeriodsTracked s) : PeriodsTracked (acquirePerf s) := by
  unfold acquirePerf
  dsimp only
  split
  · exact h.setTracker h.period
  split
  · next range => exact ((PeriodsTracked.setTracker (x := { s.tracker with
      state := .locked, period := s.tracker.since.toNat, since := 0, miss := 0 }) h range).stands
        (timingStands_raise ..)).recomputeMains
  · exact h.setTracker h.period

theorem periodsTracked_lockedPerf {s : State} (h : PeriodsTracked s) : PeriodsTracked (lockedPerf s) := by
  unfold lockedPerf
  dsimp only
  split
  · have refined := h.setTracker (x := { s.tracker with
      state := .locked, period := refinePeriod s.tracker.period s.tracker.since.toNat, since := 0, miss := 0 })
      (refinePeriod_inRange ..)
    split
    · exact refined
    · exact refined.recomputeMains
  split
  · exact h.stands (timingStands_setCounters ..)
  · exact h

/-- R44: the tracker leaves P in range, and Pm with its phases fit. -/
theorem periodsTracked_takeRecord {s : State} (h : PeriodsTracked s) (m : Marker) : PeriodsTracked (takeRecord m s) := by
  have counted : PeriodsTracked (countSince s) := h.setTracker h.period
  unfold takeRecord
  dsimp only
  split
  · unfold takePerf
    split
    · exact periodsTracked_acquirePerf counted
    · exact periodsTracked_lockedPerf counted
    · exact periodsTracked_lockedPerf counted
    · exact counted.setTracker counted.period
  · exact counted.stands (timingStands_perfMissStep _)

/-! ### The phases of a record (R56) -/

/-- R56: a phase that has advanced is below its period. -/
theorem nextPhase_lt {period : Nat} (h : 16 ≤ period) (phase : Nat) : nextPhase phase period < period := by
  unfold nextPhase
  split <;> omega

theorem periodsKept_advancePhases {s : State} (h : PeriodsTracked s) (accepted : Bool) :
    PeriodsKept (advancePhases accepted s) := by
  obtain ⟨period, ⟨mains, m, -, phases⟩, p, perf⟩ := h
  refine ⟨period, mains, ⟨nextPhase (perfPhaseNow accepted p) s.tracker.period, nextPhase_lt period.1 _, ?_⟩,
    ⟨nextPhase m s.canc.mainsPeriod, nextPhase_lt mains.1 _, ?_⟩⟩
  · simp only [advancePhases, State.setCanc_canc, perf, Quad.get_all]
    rfl
  · simp only [advancePhases, State.setCanc_canc, phases, Quad.get_all]
    rfl

/-- R30: an admission. -/
theorem periodsKept_admitSlot {s : State} (h : PeriodsKept s) (m : Marker) (stamp : BitVec 16)
    (samples : Option (Quad Sample)) : PeriodsKept (admitSlot m stamp samples s) := by
  have before : TimingStands s (beforeRecord samples s) := by
    rw [beforeRecord_eq]
    exact .of_units rfl
  have taken := periodsTracked_takeRecord ((PeriodsTracked.of_kept h).stands before) m
  have subtracted : PeriodsKept (subtracted m samples s) := periodsKept_advancePhases
    (taken.stands ((timingStands_noteActive ..).trans (timingStands_subtractAll ..))) _
  have detected : TimingStands (SampleLink.subtracted m samples s) (admitRecord m stamp samples s) := by
    rw [admitRecord_eq]
    have placed : TimingStands (SampleLink.subtracted m samples s) (recordPlaced m stamp samples s) := .of_units rfl
    exact (placed.trans (timingStands_eachChannel (fun _ _ => timingStands_detectChannel ..) _)).trans
      (.of_inner (inner_endAdmission _))
  exact (detected.trans (timingStands_afterAdmission ..)).periodsKept subtracted

/-! ### Bank exchanges and markers (R36, R38, R41, R146) -/

theorem periodsKept_recomputeMains {s : State} (h : PeriodsKept s) : PeriodsKept (recomputeMains s) := by
  have ⟨_, _, ⟨p, hp, perf⟩, _⟩ := h
  refine (PeriodsTracked.of_kept h).recomputeMains.kept (p := p) ?_ ?_
  · rw [(kept_recomputeMains s).tracker]
    exact hp
  · rw [recomputeMains_canc, withMainsPeriod_perfPhase]
    exact perf

theorem periodsKept_exchangeBanks {s : State} (h : PeriodsKept s) : PeriodsKept (exchangeBanks s) := by
  have exchanged : PeriodsKept (s.setTables (exchangedTables s)) := h
  exact ((timingStands_recomputeMaxLen _).trans (timingStands_raise ..)).periodsKept
    (periodsKept_recomputeMains exchanged)

theorem periodsKept_exchangeAt {s : State} (h : PeriodsKept s) (t : Trigger) : PeriodsKept (exchangeAt t s) := by
  unfold exchangeAt
  split
  · exact periodsKept_exchangeBanks h
  · exact h

/-- R51: an entry to ACQUIRE keeps P. -/
theorem timingStands_enterAcquire (s : State) : TimingStands s (s.setTracker (enterAcquire s.tracker)) :=
  ⟨rfl, rfl, rfl, rfl⟩

theorem timingStands_setFilm (s : State) (x : Film) : TimingStands s (s.setFilm x) := .of_units rfl

/-- R41: behind its exchange a SPLICE leaves P, Pm and the phases. -/
theorem timingStands_deliverSplice (s : State) : TimingStands (exchangeAt .nextSplice s) (deliverSplice s) := by
  unfold deliverSplice
  have guarded (t : State) (x : Film) : TimingStands t ((noteActive (.stream .spliceGuard) t).setFilm x) :=
    (timingStands_noteActive ..).trans (timingStands_setFilm ..)
  have loaded (t : State) (mask len : Nat) : TimingStands t
      (loadSpliceCounts mask len (noteActive (.stream .channelMask) (noteActive (.stream .spliceLen) t))) :=
    ((timingStands_noteActive ..).trans (timingStands_noteActive ..)).trans (timingStands_setDet ..)
  exact (((guarded ..).trans (loaded ..)).trans (timingStands_enterAcquire _)).trans (timingStands_raise ..)

theorem periodsKept_deliverMarker {s : State} (h : PeriodsKept s) (m : Marker) : PeriodsKept (deliverMarker m s) := by
  have frame : PeriodsKept (deliverFrame s) := TimingStands.periodsKept
    (.ite ((timingStands_setFilm ..).trans (timingStands_raise ..)) (timingStands_setFilm ..))
    (periodsKept_exchangeAt h .nextFrame)
  cases m with
  | none => exact h
  | perf => exact h
  | frame => exact frame
  | framePerf => exact frame
  | splice => exact (timingStands_deliverSplice s).periodsKept (periodsKept_exchangeAt h _)
  | reelStart =>
    have cleared : TimingStands s (deliverReelStart s) :=
      .ite ((timingStands_noteActive ..).trans (timingStands_setFilm ..)) (timingStands_noteActive ..)
    exact cleared.periodsKept h
  | reelEnd => exact h

/-! ### Stream starts (R20, R58) -/

/-- R58: phases of 0 are below every period. -/
theorem PeriodsTracked.kept_zero {s t : State} (h : PeriodsTracked s) (period : t.tracker.period = s.tracker.period)
    (mainsPeriod : t.canc.mainsPeriod = s.canc.mainsPeriod) (perf : t.canc.perfPhase = Quad.all 0)
    (mains : t.canc.mainsPhase = Quad.all 0) : PeriodsKept t := by
  have positive := h.period.1
  have positiveMains := h.mains.1.1
  rw [← period] at positive
  rw [← mainsPeriod] at positiveMains
  exact ⟨period ▸ h.period, mainsPeriod ▸ h.mains.1, ⟨0, by omega, perf⟩, ⟨0, by omega, mains⟩⟩

theorem periodsKept_startCanceller {s : State} (h : PeriodsKept s) : PeriodsKept (startCanceller s) := by
  have noted := timingStands_eachChannel (fun ch t => timingStands_noteActive t (.chan ch .keepTemplates)) s
  exact ((PeriodsTracked.of_kept h).stands noted).kept_zero rfl rfl rfl rfl

theorem periodsKept_startStreamNow {s : State} (h : PeriodsKept s) (m : Marker) : PeriodsKept (startStreamNow m s) := by
  have begun : TimingStands (exchangeAt .streamStart s) (startBegun s) :=
    (TimingStands.of_inner (inner_noteLookahead _)).trans (.of_units rfl)
  have acted : PeriodsKept (startActed m s) := periodsKept_startCanceller
    (((begun.trans (timingStands_setDet ..)).trans (timingStands_recomputeMaxLen _)).periodsKept
      (periodsKept_exchangeAt h _))
  have settled (t : State) : TimingStands t (startSettled m t) := by
    unfold startSettled
    dsimp only
    split <;> exact ⟨rfl, rfl, rfl, rfl⟩
  rw [startStreamNow_eq]
  exact (settled _).periodsKept acted

/-! ### The slots (R16, R19, R26) -/

theorem periodsKept_startAndAdmit {s : State} (h : PeriodsKept s) (m : Marker) (stamp : BitVec 16) (x : Quad Sample) :
    PeriodsKept (startAndAdmit m stamp x s) := periodsKept_admitSlot (periodsKept_startStreamNow h m) ..

theorem periodsKept_release {s : State} (h : PeriodsKept s) : PeriodsKept (release s) :=
  (timingStands_release s).periodsKept h

theorem periodsKept_arriveIdle {s : State} (h : PeriodsKept s) (m : Marker) (c : SlotClass) :
    PeriodsKept (arriveIdle m c s) := by
  cases c with
  | bad => exact h
  | idle => exact h
  | sample x =>
    have noted : PeriodsKept (noteMarkerStart m (countSlot s)) :=
      TimingStands.periodsKept (.ite (timingStands_noteActive ..) (.refl _)) (s := countSlot s) h
    unfold arriveIdle
    dsimp only
    split
    · exact periodsKept_startAndAdmit noted ..
    · exact noted

theorem periodsKept_streamStep {s : State} (h : PeriodsKept s) (m : Marker) (c : SlotClass) :
    PeriodsKept (streamStep m c s) := by
  have cleared : PeriodsKept (s.setOut { s.out with slot := idleSlot }) := h
  have counted : PeriodsKept (countSlot (s.setOut { s.out with slot := idleSlot })) := h
  unfold streamStep
  dsimp only
  split
  · exact periodsKept_arriveIdle cleared m c
  · exact periodsKept_admitSlot counted ..
  · exact periodsKept_admitSlot (periodsKept_release counted) ..
  · unfold arriveDraining
    cases c with
    | bad => exact periodsKept_release cleared
    | idle => exact periodsKept_release cleared
    | sample x => exact periodsKept_release (s := countDrained (s.setOut { s.out with slot := idleSlot })) h

theorem periodsKept_armedStartStep {s : State} (h : PeriodsKept s) (m : Marker) (x : Quad Sample) :
    PeriodsKept (armedStartStep m x s) := by
  unfold armedStartStep
  split
  · exact periodsKept_startAndAdmit (s := countSlot (s.setOut { s.out with slot := idleSlot })) h ..
  · exact h

theorem periodsKept_drainEndStep {s : State} (h : PeriodsKept s) : PeriodsKept (drainEndStep s) := by
  unfold drainEndStep
  split
  · exact periodsKept_release h
  · exact h

/-! ### Resets and the boot recall (R72, R153, R163, R181, R187) -/

theorem periodsKept_settleFromBank {s : State} (h : PeriodsKept s) : PeriodsKept (settleFromBank s) := by
  have noted := (timingStands_noteActive s (.stream .lookahead)).periodsKept h
  exact (timingStands_recomputeMaxLen _).periodsKept (periodsKept_recomputeMains noted)

/-- R52, R72: the tracker and the phases of a reset, with Pm as it stands. -/
theorem periodsKept_reset {s t : State} (h : PeriodsKept s) (tracker : t.tracker = Tracker.atReset)
    (mainsPeriod : t.canc.mainsPeriod = s.canc.mainsPeriod) (perf : t.canc.perfPhase = Quad.all 0)
    (mains : t.canc.mainsPhase = Quad.all 0) : PeriodsKept t :=
  ((PeriodsTracked.of_kept h).setTracker (x := Tracker.atReset) (by decide)).kept_zero
    (congrArg Tracker.period tracker) mainsPeriod perf mains

theorem periodsKept_softResetNow {s : State} (h : PeriodsKept s) : PeriodsKept (softResetNow s) :=
  (timingStands_raise ..).periodsKept (periodsKept_settleFromBank (periodsKept_reset h rfl rfl rfl rfl))

theorem periodsKept_bootDoneStep {s : State} (h : PeriodsKept s) : PeriodsKept (bootDoneStep s) := by
  unfold bootDoneStep
  split
  · exact (timingStands_raise ..).periodsKept (periodsKept_settleFromBank h)
  · exact h

theorem timingStands_recallDoneStep (s : State) : TimingStands s (recallDoneStep s) := by
  unfold recallDoneStep
  split
  · exact ⟨rfl, rfl, rfl, rfl⟩
  · exact .refl s

/-! ### The commands (R159) -/

theorem timingStands_reply (c : CmdCode) (st : Status) (data : List Word) (s : State) :
    TimingStands s (reply c st data s) := .of_units rfl

theorem periodsKept_cmdSwapBanks {s : State} (h : PeriodsKept s) (p : List Word) : PeriodsKept (cmdSwapBanks p s) := by
  have later (t : Trigger) : PeriodsKept (swapLater t s) := by
    unfold swapLater
    split <;> exact h
  unfold cmdSwapBanks
  split
  · split
    · unfold swapNow
      split
      · exact h
      · exact periodsKept_exchangeBanks (s := reply .swapBanks .ok [] s) h
    split
    · exact later _
    split
    · exact later _
    split
    · exact later _
    · exact h
  · exact h

theorem timingStands_cmdStartStream (p : List Word) (s : State) : TimingStands s (cmdStartStream p s) := by
  unfold cmdStartStream
  split
  · split
    · exact .of_units rfl
    · have armed (x : Stream) : TimingStands s ((reply .startStream .ok [] s).setStream x) := .of_units rfl
      exact .ite ((timingStands_reply ..).trans (timingStands_noteActive ..))
        ((armed _).trans (timingStands_noteActive ..))
  · exact .of_units rfl

theorem timingStands_cmdStopStream (p : List Word) (s : State) : TimingStands s (cmdStopStream p s) := by
  have stopped : TimingStands s (stopReel s) := .ite ((timingStands_reply ..).trans (timingStands_noteActive ..))
    (((timingStands_reply ..).trans (timingStands_noteActive ..)).trans (timingStands_enterDraining _))
  unfold cmdStopStream
  split
  · split
    · exact .of_units rfl
    · exact stopped
    · exact stopped
    · exact .of_units rfl
  · exact .of_units rfl

theorem timingStands_cmdReadTemplate (p : List Word) (s : State) : TimingStands s (cmdReadTemplate p s) := by
  unfold cmdReadTemplate
  split
  · exact .ite (.of_units rfl) ((timingStands_reply ..).trans (timingStands_readTemplateBins ..))
  · exact .of_units rfl

theorem timingStands_cmdLoadTemplate (p : List Word) (s : State) : TimingStands s (cmdLoadTemplate p s) := by
  unfold cmdLoadTemplate
  split
  · exact .of_units rfl
  · exact .ite (.of_units rfl) (.ite (.of_units rfl) ((timingStands_reply ..).trans (timingStands_loadBins ..)))

/-- The plain commands leave the tracker too. -/
theorem runCommand_tracker_of_plain {c : CmdCode} (h : plainCommand c = true) (p : List Word) (s : State) :
    (runCommand c p s).tracker = s.tracker := by
  cases c with
  | queryStatus => simp only [runCommand, cmdQueryStatus]; split <;> (try split) <;> rfl
  | readCounters => simp only [runCommand, cmdReadCounters]; split <;> rfl
  | clearCounters => simp only [runCommand, cmdClearCounters]; split <;> rfl
  | readTable => simp only [runCommand, cmdReadTable]; split <;> (try split) <;> rfl
  | resume => simp only [runCommand, cmdResume]; split <;> (try split) <;> rfl
  | setFrameTag => simp only [runCommand, cmdSetFrameTag]; split <;> (try split) <;> rfl
  | forceDefect =>
    simp only [runCommand, cmdForceDefect, forceDefectOf]
    split
    · split
      · rfl
      · split <;> rfl
    · rfl
  | readLog => simp only [runCommand, cmdReadLog]; split <;> (try split) <;> rfl
  | setEventMask => simp only [runCommand, cmdSetEventMask]; split <;> rfl
  | readEventSummary => simp only [runCommand, cmdReadEventSummary]; split <;> rfl
  | ackFault => simp only [runCommand, cmdAckFault]; split <;> rfl
  | _ => cases h

theorem timingStands_runCommand_of_plain {c : CmdCode} (h : plainCommand c = true) (p : List Word) (s : State) :
    TimingStands s (runCommand c p s) := by
  have units := runCommand_plain h p s
  simp only [storedUnits, Prod.mk.injEq] at units
  obtain ⟨-, -, canc, -, -, -⟩ := units
  exact .of_units (Prod.ext (runCommand_tracker_of_plain h p s) canc)

/-- R159: what the execution of a command keeps. -/
theorem periodsKept_runCommand {s : State} (h : PeriodsKept s) (c : CmdCode) (p : List Word) :
    PeriodsKept (runCommand c p s) := by
  by_cases plain : plainCommand c = true
  · exact (timingStands_runCommand_of_plain plain p s).periodsKept h
  cases c with
  | writeTable =>
    simp only [runCommand, cmdWriteTable]
    split
    · exact h
    split
    · exact h
    split
    · exact h
    split <;> exact h
  | swapBanks => exact periodsKept_cmdSwapBanks h p
  | cancelSwap => simp only [runCommand, cmdCancelSwap]; split <;> exact h
  | startStream => exact (timingStands_cmdStartStream p s).periodsKept h
  | stopStream => exact (timingStands_cmdStopStream p s).periodsKept h
  | readTemplate => exact (timingStands_cmdReadTemplate p s).periodsKept h
  | loadTemplate => exact (timingStands_cmdLoadTemplate p s).periodsKept h
  | storeProfile =>
    simp only [runCommand, cmdStoreProfile]
    split
    · split
      · exact h
      split <;> exact h
    · exact h
  | recallProfile =>
    simp only [runCommand, cmdRecallProfile, recallTests]
    split
    · split
      · exact h
      split
      · exact h
      split
      · exact h
      split <;> exact h
    · exact h
  | softReset =>
    simp only [runCommand, cmdSoftReset]
    split
    · exact periodsKept_softResetNow (s := reply .softReset .ok [] s) h
    · exact h
  | _ => exact absurd rfl plain

/-! ### One step -/

theorem onChapters_periodsKept : OnChapters PeriodsKept := by
  intro s t h units
  simp only [chapterUnits, Prod.mk.injEq] at units
  obtain ⟨⟨-, -, -, tracker, canc, -, -⟩, -⟩ := units
  exact (TimingStands.of_units (Prod.ext tracker canc)).periodsKept h

theorem chaptersKeep_periodsKept : ChaptersKeep PeriodsKept where
  onChapters := onChapters_periodsKept
  marker m _ h := periodsKept_deliverMarker h m
  slot m c _ h := periodsKept_streamStep h m c
  command c p _ h := periodsKept_runCommand h c p
  linkLost s h := (timingStands_linkLostStep s).periodsKept h
  armedStart m x _ h := periodsKept_armedStartStep h m x
  perfMiss s h := (timingStands_perfMissStep s).periodsKept h
  normalClose ch s h := (TimingStands.of_inner (inner_normalCloseStep ch s)).periodsKept h
  retirementEnd s h := by
    unfold retirementEndStep
    split <;> exact h
  drainEnd _ h := periodsKept_drainEndStep h
  exchange t _ h := periodsKept_exchangeAt h t
  setStore _ _ h := h
  hardReset _ h := periodsKept_reset h rfl rfl rfl rfl
  bootDone _ h := periodsKept_bootDoneStep h
  recallDone s h := (timingStands_recallDoneStep s).periodsKept h

/-- Settles O11: P moves only where the tracker takes a record, whose phases then advance below it; a new Pm tests the
MAINS phases; every other part of the commands' meanings leaves them or sets them to their reset values. -/
theorem stepKeepsPeriods : Obligations.StepKeepsPeriods := chaptersKeep_periodsKept.stepKeeps

end Sys2Proof.FilmPosition
end

section
/-! What the markers, SET_FRAME_TAG, the tracker and the bank exchanges make of a state (R36 to R56, R145 to R148). -/

namespace Sys2Proof.FilmPosition

open Sys2Proof Sys2Proof.Machine Sys2Proof.Safety Sys2Proof.SampleLink Sys2Proof.StreamRing

/-! ### SET_FRAME_TAG (R39) -/

/-- R39: SET_FRAME_TAG where it is executed. -/
theorem exec_setFrameTag {s : State} (h : Ready s) (lo hi : Word) : exec (.setFrameTag [lo, hi]) s = .next
    (if 16777215 < (hi ++ lo : BitVec 32).toNat then afterReply s 11 [6]
      else (afterReply s 11 [0]).setFilm { s.film with tag := (hi ++ lo : BitVec 32).extractLsb' 0 24, offset := 0 }) :=
  exec_ready (c := .setFrameTag) (p := [lo, hi]) h (Nat.le_add_left 2 61)

/-- Settles O26: the two branches of the command, a tag up to 16,777,215 being the low 24 bits of its value. -/
theorem setFrameTagLoads : Obligations.SetFrameTagLoads := by
  intro s lo hi h
  rw [exec_setFrameTag h]
  refine ⟨fun loads => ?_, fun above => by rw [if_pos above]⟩
  have low : (hi ++ lo : BitVec 32).extractLsb' 0 24 = BitVec.ofNat 24 (hi ++ lo : BitVec 32).toNat :=
    BitVec.eq_of_toNat_eq (by simp)
  rw [if_neg (Nat.not_lt.mpr loads), low]
  rfl

/-! ### Pm (R53, R54) -/

/-- R54: the canceller with a new Pm, field by field. -/
theorem withMainsPeriod_eq (pm : Nat) (c : Canceller) : withMainsPeriod pm c = { c with
    mainsPeriod := pm
    mainsPhase := if pm = c.mainsPeriod then c.mainsPhase
      else Quad.build fun ch => if c.mainsPhase.get ch ≥ pm then 0 else c.mainsPhase.get ch } := by
  by_cases same : pm = c.mainsPeriod
  · subst same
    simp only [withMainsPeriod, if_true]
  · simp only [withMainsPeriod, if_neg same]

/-- Settles O56: the two modes are the branches of `mainsPeriodOf`, and with sound tables the computation sets the
canceller alone. -/
theorem mainsPeriodOfTheActiveBank : Obligations.MainsPeriodOfTheActiveBank := by
  intro s a
  have coupled (h : setting s a (.stream .mainsMode) = 0) : mainsPeriodOf s =
      max 16 (min 16383 (s.tracker.period * setting s a (.stream .mainsRatio) / 256)) :=
    congrArg (clampNat 16 16383) (if_pos h)
  have free (h : setting s a (.stream .mainsMode) ≠ 0) : mainsPeriodOf s =
      max 16 (min 16383 (setting s a (.stream .mainsFreePeriod))) := congrArg (clampNat 16 16383) (if_neg h)
  obtain ⟨least, most⟩ := mainsPeriodOf_inRange s
  refine ⟨coupled, free, least, most, fun mode ratio period => ?_, fun mode period => ?_, fun sound => ?_⟩
  · rw [coupled mode, ratio, period]
    decide
  · rw [free (by omega), period]
    decide
  · refine ⟨_, recomputeMains_of_sound sound, ?_⟩
    rw [withMainsPeriod_eq]
    exact ⟨rfl, rfl, rfl⟩

/-! ### Markers (R36, R38, R41) -/

/-- R147: an exchange that is not pending, or waits for another trigger, is not made. -/
theorem exchangeAt_of_ne {s : State} {t : Trigger} (h : s.tables.pendingX ≠ some t) : exchangeAt t s = s := if_neg h

/-- R36: a FRAME or FRAME_PERF that meets no trigger. -/
theorem deliverFrame_of_ne {s : State} (h : s.tables.pendingX ≠ some .nextFrame) : deliverFrame s =
    if s.film.tag = BitVec.allOnes 24 then
      raise .frameTagWrap none none (s.setFilm { s.film with tag := s.film.tag + 1, offset := 0 })
    else s.setFilm { s.film with tag := s.film.tag + 1, offset := 0 } := by
  rw [deliverFrame, exchangeAt_of_ne h]

/-- R38: a REEL_START whose field is sound. -/
theorem deliverReelStart_of_sound {s : State} (h : fieldOk (storedField s s.tables.active (.stream .tagClear)) = true) :
    deliverReelStart s = if setting s s.tables.active (.stream .tagClear) = 0 then s
      else s.setFilm { s.film with tag := 0, offset := 0 } := by
  have read : noteActive (.stream .tagClear) s = s := note_sound h
  rw [deliverReelStart, read]
  by_cases clear : setting s s.tables.active (.stream .tagClear) = 0 <;> simp [isSet, clear]

/-- R41: a SPLICE that meets no trigger, with sound tables. -/
theorem deliverSplice_of_sound {s : State} (h : s.tables.pendingX ≠ some .nextSplice) (sound : SoundTables s) :
    deliverSplice s = raise .splice none none
      ((loadSpliceCounts (activeSetting s (.stream .channelMask)) (activeSetting s (.stream .spliceLen))
        (s.setFilm { s.film with guard := BitVec.ofNat 16 (activeSetting s (.stream .spliceGuard)) })).setTracker
          (enterAcquire s.tracker)) := by
  have guarded (x : Film) (r : FieldRef) : noteActive r (s.setFilm x) = s.setFilm x :=
    noteActive_of_sound (s := s.setFilm x) sound r
  simp only [deliverSplice, exchangeAt_of_ne h, noteActive_of_sound sound, guarded]
  rfl

/-- Settles O50: the three deliveries where their exchange is not made and the fields they read are sound. -/
theorem markersMoveTheFilmPosition : Obligations.MarkersMoveTheFilmPosition := by
  intro s a
  refine ⟨fun h m hm => ?_, fun h => deliverReelStart_of_sound h, fun h sound => deliverSplice_of_sound h sound⟩
  have frame : deliverMarker m s = deliverFrame s := by rcases hm with rfl | rfl <;> rfl
  rw [frame, deliverFrame_of_ne h]
  rfl

/-! ### Bank exchanges (R145 to R148) -/

/-- R146: an exchange with sound tables. -/
theorem exchangeBanks_of_sound {s : State} (h : SoundTables s) : exchangeBanks s =
    withEvent .swapDone none (some (BitVec.ofNat 32 s.tables.active.opposite.num)) (exchanged s) := by
  have sound : SoundTables (s.setTables (exchangedTables s)) := h
  have recomputed : SoundTables (recomputeMains (s.setTables (exchangedTables s))) :=
    ((steady_recomputeMains _).steady sound).soundTables sound
  rw [exchangeBanks, recomputeMaxLen_of_sound recomputed, recomputeMains_of_sound sound, withMainsPeriod_eq]
  rfl

/-- R145: SWAP_BANKS where it is executed. -/
theorem exec_swapBanks {s : State} (h : Ready s) (w : Word) :
    exec (.swapBanks [w]) s = .next (cmdSwapBanks [w] (endAssembly s)) :=
  exec_ready (c := .swapBanks) (p := [w]) h (Nat.le_add_left 1 62)

theorem swapBusy_iff (s : State) : swapBusy s = true ↔ s.tables.pendingX ≠ none ∨ s.tables.other ≠ .standby := by
  simp [swapBusy, Option.isSome_iff_ne_none]

/-- R145: a trigger that is refused with BUSY. -/
theorem cmdSwapBanks_busy {s : State} (h : swapBusy s = true) {w : Word} (hw : w.toNat ≤ 3) :
    cmdSwapBanks [w] s = reply .swapBanks .busy [] s := by
  have later (t : Trigger) : swapLater t s = reply .swapBanks .busy [] s := if_pos h
  have now : swapNow s = reply .swapBanks .busy [] s := if_pos h
  have trigger : w = 0 ∨ w = 1 ∨ w = 2 ∨ w = 3 := by bv_omega
  rcases trigger with rfl | rfl | rfl | rfl
  · exact now
  · exact later _
  · exact later _
  · exact later _

/-- R145, R168: a trigger above 3. -/
theorem cmdSwapBanks_badParam (s : State) {w : Word} (hw : 3 < w.toNat) :
    cmdSwapBanks [w] s = reply .swapBanks .badParam [] s := by
  have none_of_them : w ≠ 0 ∧ w ≠ 1 ∧ w ≠ 2 ∧ w ≠ 3 := by
    refine ⟨?_, ?_, ?_, ?_⟩ <;> rintro rfl <;> exact absurd hw (by decide)
  obtain ⟨h0, h1, h2, h3⟩ := none_of_them
  simp only [cmdSwapBanks, if_neg h0, if_neg h1, if_neg h2, if_neg h3]

/-- R145: a trigger that waits. -/
theorem swapLater_of_not_busy {s : State} (h : ¬ swapBusy s = true) (t : Trigger) :
    swapLater t s = (reply .swapBanks .ok [] s).setTables { s.tables with pendingX := some t } := if_neg h

/-- R145: the trigger NOW. -/
theorem swapNow_of_not_busy {s : State} (h : ¬ swapBusy s = true) :
    swapNow s = exchangeBanks (reply .swapBanks .ok [] s) := if_neg h

/-- R147: the row of a pending exchange, where the part serves. -/
theorem exec_pendingExchange {s : State} (h : s.serving = true) (t : Trigger) :
    exec (.pendingExchange t) s = .next (exchangeAt t s) := congrArg Host.Outcome.next (if_pos h)

/-- Settles O21: the tests of R145 in their order; an exchange is `exchangeBanks_of_sound`, in the row behind the
reply. -/
theorem bankExchanges : Obligations.BankExchanges := by
  refine ⟨fun s w h => ?_, fun s h => ?_, fun s t h => ⟨fun pending sound => ?_, fun waits => ?_⟩⟩
  · have busy_iff : swapBusy (endAssembly s) = true ↔ s.tables.pendingX ≠ none ∨ s.tables.other ≠ .standby :=
      swapBusy_iff _
    refine ⟨fun hw => ?_, fun hw busy => ?_, fun free => ?_⟩
    · rw [exec_swapBanks h, cmdSwapBanks_badParam _ hw]
      rfl
    · rw [exec_swapBanks h, cmdSwapBanks_busy (busy_iff.2 busy) hw]
      rfl
    · have notBusy := mt busy_iff.1 free
      simp only [exec_swapBanks h]
      refine ⟨congrArg Host.Outcome.next (swapLater_of_not_busy notBusy .nextFrame),
        congrArg Host.Outcome.next (swapLater_of_not_busy notBusy .nextSplice),
        congrArg Host.Outcome.next (swapLater_of_not_busy notBusy .streamStart), fun sound => ?_⟩
      have answered : SoundTables (afterReply s 6 [0]) := sound
      exact congrArg Host.Outcome.next ((swapNow_of_not_busy notBusy).trans (exchangeBanks_of_sound answered))
  · exact exec_ready (c := .cancelSwap) (p := []) h (Nat.zero_le _)
  · rw [exec_pendingExchange h, exchangeAt, if_pos pending, exchangeBanks_of_sound sound]
  · rw [exec_pendingExchange h, exchangeAt_of_ne waits]

/-! ### The tracker (R44 to R52) -/

/-- R53, R54: Pm is recomputed for a new P with sound tables. -/
theorem recomputeMains_setTracker {s : State} (h : SoundTables s) (x : Tracker) :
    recomputeMains (s.setTracker x) = withPeriod x s := by
  have sound : SoundTables (s.setTracker x) := h
  rw [recomputeMains_of_sound sound, withMainsPeriod_eq]
  rfl

/-- R45: a lock, with sound tables. -/
theorem recomputeMains_locked {s : State} (h : SoundTables s) (p : Option (BitVec 32)) (x : Tracker) :
    recomputeMains (raise .perfLocked none p (s.setTracker x)) = withEvent .perfLocked none p (withPeriod x s) := by
  have sound : SoundTables (raise .perfLocked none p (s.setTracker x)) := h
  rw [recomputeMains_of_sound sound, ← recomputeMains_setTracker h, recomputeMains_of_sound (s := s.setTracker x) h]
  rfl

theorem isPerf_iff (m : Marker) : isPerf m = true ↔ m = .perf ∨ m = .framePerf := by
  cases m <;> decide

/-- R44: a PERF or FRAME_PERF record. -/
theorem takeRecord_perf {m : Marker} (h : m = .perf ∨ m = .framePerf) (s : State) :
    takeRecord m s = takePerf (countSince s) := if_pos ((isPerf_iff m).2 h)

/-- R44: a record without a marker for the tracker. -/
theorem takeRecord_other {m : Marker} (h : ¬ (m = .perf ∨ m = .framePerf)) (s : State) :
    takeRecord m s = perfMissStep (countSince s) := if_neg (mt (isPerf_iff m).1 h)

theorem inWindow_iff (t : Tracker) : inWindow t = true ↔
    t.period - t.period / 8 ≤ t.since.toNat ∧ t.since.toNat ≤ t.period + t.period / 8 := decide_eq_true_iff

/-- R45: the first marker. -/
theorem acquirePerf_first {s : State} (h : s.tracker.firstSeen = false) :
    acquirePerf s = s.setTracker { s.tracker with since := 0, firstSeen := true } := by
  simp only [acquirePerf, h, Bool.not_false, if_true]

/-- R45: an interval in range locks. -/
theorem acquirePerf_locks {s : State} (sound : SoundTables s) (h : s.tracker.firstSeen = true)
    (range : 16 ≤ s.tracker.since.toNat ∧ s.tracker.since.toNat ≤ 16383) :
    acquirePerf s = withEvent .perfLocked none (some (BitVec.ofNat 32 s.tracker.since.toNat))
      (withPeriod { s.tracker with state := .locked, period := s.tracker.since.toNat, since := 0, miss := 0 } s) := by
  have range' : Config.periodMin ≤ s.tracker.since.toNat ∧ s.tracker.since.toNat ≤ Config.periodMax := range
  rw [← recomputeMains_locked sound]
  simp only [acquirePerf, h, Bool.not_true, Bool.false_eq_true, if_false, if_pos range']

/-- R45: an interval out of range restarts the count. -/
theorem acquirePerf_restarts {s : State} (h : s.tracker.firstSeen = true)
    (range : s.tracker.since.toNat < 16 ∨ 16383 < s.tracker.since.toNat) :
    acquirePerf s = s.setTracker { s.tracker with since := 0 } := by
  have range' : ¬ (Config.periodMin ≤ s.tracker.since.toNat ∧ s.tracker.since.toNat ≤ Config.periodMax) := by
    unfold Config.periodMin Config.periodMax
    omega
  simp only [acquirePerf, h, Bool.not_true, Bool.false_eq_true, if_false, if_neg range']

/-- R46, R47, R49: LOCKED and COASTING take a marker alike. -/
theorem takePerf_tracking {s : State} (h : s.tracker.state = .locked ∨ s.tracker.state = .coasting) :
    takePerf s = lockedPerf s := by
  rcases h with h | h <;> simp only [takePerf, h]

/-- R46: an accepted marker in LOCKED or COASTING, with sound tables. -/
theorem lockedPerf_accepts {s : State} (sound : SoundTables s) (h : inWindow s.tracker = true) : lockedPerf s =
    if refinePeriod s.tracker.period s.tracker.since.toNat = s.tracker.period then
      s.setTracker { s.tracker with state := .locked, since := 0, miss := 0 }
    else withPeriod { s.tracker with
      state := .locked
      period := refinePeriod s.tracker.period s.tracker.since.toNat
      since := 0
      miss := 0 } s := by
  simp only [lockedPerf, if_pos h, recomputeMains_setTracker sound]
  split
  · next same => rw [same]
  · rfl

/-- R47: an early marker is an outlier. -/
theorem lockedPerf_early {s : State} (h : s.tracker.since.toNat < s.tracker.period - s.tracker.period / 8) :
    lockedPerf s = countOutlier s := by
  have outside : ¬ inWindow s.tracker = true := by
    rw [inWindow_iff]
    omega
  have early : isEarly s.tracker = true := decide_eq_true h
  simp only [lockedPerf, if_neg outside, if_pos early]

theorem missDue_iff (t : Tracker) : missDue t = true ↔
    (t.state = .locked ∨ t.state = .coasting) ∧ t.since.toNat = t.period + t.period / 8 := by
  simp [missDue, trackerWindow]

/-- R48: a miss, its field sound. -/
theorem perfMissStep_due {s : State} (due : missDue s.tracker = true)
    (h : fieldOk (storedField s s.tables.active (.stream .missLimit)) = true) :
    let lost := setting s s.tables.active (.stream .missLimit) ≤ (satInc s.tracker.miss).toNat
    let u := s.setTracker { s.tracker with
      state := if lost then .lost else .coasting
      since := BitVec.ofNat 16 (s.tracker.period / 8)
      miss := satInc s.tracker.miss }
    perfMissStep s = if lost then withEvent .perfLost none (some (BitVec.ofNat 32 s.tracker.period)) u else u := by
  intro lost u
  have read : noteActive (.stream .missLimit) s = s := note_sound h
  have missed : s.setTracker (missed (activeSetting s (.stream .missLimit)) s.tracker) = u := rfl
  have state : u.tracker.state = .lost ↔ lost := by
    change (if lost then TrackerState.lost else .coasting) = .lost ↔ lost
    split <;> simp_all
  simp only [perfMissStep, if_pos due, read, missed, state]
  rfl

/-- R45, R46, R50: the marker of a record is accepted. -/
theorem markerAccepted_iff (m : Marker) (s : State) : markerAccepted m s = true ↔
    (m = .perf ∨ m = .framePerf) ∧ (s.tracker.state = .acquire ∨ s.tracker.state = .lost ∨
      inWindow (countSince s).tracker = true) := by
  have state : (countSince s).tracker.state = s.tracker.state := rfl
  rw [markerAccepted, Bool.and_eq_true, isPerf_iff, acceptsPerf, state]
  cases s.tracker.state <;> simp

/-- R48: the row PERF_MISS, where the part serves. -/
theorem exec_perfMiss {s : State} (h : s.serving = true) : exec .perfMiss s = .next (perfMissStep s) :=
  congrArg Host.Outcome.next (if_pos h)

/-- Settles O40: the branches of `takePerf` by the tracker's state, the miss of `perfMissStep`, and the phases as
`advancePhases` writes them. -/
theorem trackerFollowsTheMarkers : Obligations.TrackerFollowsTheMarkers := by
  refine ⟨fun s m sound => ?_, fun s accepted => rfl, fun s serves tracking due ok => ?_⟩
  · intro k n i w perf tracking within track p misses lost after
    have counted : SoundTables (countSince s) := sound
    have window : inWindow (countSince s).tracker = true ↔ within := inWindow_iff _
    have acquires (hp : perf) (hs : k.state = .acquire) : takeRecord m s = acquirePerf (countSince s) := by
      rw [takeRecord_perf hp]
      have state : (countSince s).tracker.state = .acquire := hs
      simp only [takePerf, state]
    have tracks (hp : perf) (ht : tracking) : takeRecord m s = lockedPerf (countSince s) :=
      (takeRecord_perf hp s).trans (takePerf_tracking (s := countSince s) ht)
    refine ⟨fun hp hs first => ?_, fun hp hs seen least most => ?_, fun hp hs seen out => ?_,
      fun hp ht inside moves => ?_, fun hp ht inside stays => ?_, fun hp ht early => ?_, fun hp hs => ?_,
      fun hp quiet => ?_, fun hp ht due => ?_, ?_⟩
    · exact (acquires hp hs).trans (acquirePerf_first first)
    · exact (acquires hp hs).trans (acquirePerf_locks counted seen ⟨least, most⟩)
    · exact (acquires hp hs).trans (acquirePerf_restarts seen out)
    · exact (tracks hp ht).trans ((lockedPerf_accepts counted (window.2 inside)).trans (if_neg moves))
    · exact (tracks hp ht).trans ((lockedPerf_accepts counted (window.2 inside)).trans (if_pos stays))
    · exact (tracks hp ht).trans (lockedPerf_early early)
    · have state : (countSince s).tracker.state = .lost := hs
      rw [takeRecord_perf hp]
      simp only [takePerf, state]
      rfl
    · have notDue : ¬ missDue (countSince s).tracker = true := by
        rw [missDue_iff]
        rintro ⟨ht, hi⟩
        have ht' : k.state = .locked ∨ k.state = .coasting := ht
        rcases quiet with hs | hs | hne
        · simp [hs] at ht'
        · simp [hs] at ht'
        · exact hne hi
      exact (takeRecord_other hp s).trans (if_neg notDue)
    · rw [takeRecord_other hp]
      exact perfMissStep_due ((missDue_iff _).2 ⟨ht, due⟩) (counted _ _)
    · exact (markerAccepted_iff m s).trans (and_congr_right fun _ => or_congr_right (or_congr_right window))
  · rw [exec_perfMiss serves]
    exact congrArg Host.Outcome.next (perfMissStep_due ((missDue_iff _).2 ⟨tracking, due⟩) ok)

end Sys2Proof.FilmPosition
end

section
/-! Template bins (R55, R61): what a read, a correction and a load make of them; READ_TEMPLATE and LOAD_TEMPLATE (R70,
R71, R168). -/

namespace Sys2Proof.NoiseTemplates

open Sys2Proof Sys2Proof.Machine Sys2Proof.Safety Sys2Proof.SampleLink Sys2Proof.StreamRing Sys2Proof.FilmPosition

/-! ### Reads of a bin (R61) -/

/-- R170: the parameter of MEMORY_CORRECTED for a bin. -/
theorem templateSource_eq (e : Engine) (b : BitVec 6) : templateSource e b =
    BitVec.ofNat 32 ((match e with | .perf => 0 | .mains => 2 ^ 30) + b.toNat) := by
  cases e <;> rfl

section

variable (ch : Channel) (e : Engine) (b : BitVec 6) (s : State)

/-- R61: the read of a bin that fails its check. -/
theorem readBin_failing (h : cellOk (binCell s.canc ch e b) = false) : readBin ch e b s =
    withEvent .memoryCorrected (some ch) (some (templateSource e b)) (s.setCanc (writeBin ch e b 0 s.canc)) := by
  rw [readBin, if_neg (by simp [h])]
  rfl

/-- R61: a read touches the templates and the events alone. -/
theorem readBin_frame : readBin ch e b s = (s.setCanc (readBin ch e b s).canc).setEvents (readBin ch e b s).events := by
  unfold readBin
  split <;> rfl

/-- R61: a bin after a read of one. -/
theorem binCell_readBin (ch' : Channel) (e' : Engine) (b' : BitVec 6) : binCell (readBin ch e b s).canc ch' e' b' =
    if (ch' = ch ∧ e' = e ∧ b' = b) ∧ cellOk (binCell s.canc ch e b) = false then freshCell 0
    else binCell s.canc ch' e' b' := by
  cases h : cellOk (binCell s.canc ch e b)
  · rw [readBin_failing ch e b s h]
    simp only [and_true]
    exact binCell_writeBin s.canc ch ch' e e' b b' 0
  · rw [readBin_sound h]
    simp

/-- R55: a written bin leaves the phases and Pm. -/
theorem timing_writeBin (c : Canceller) (v : Sample) :
    ((writeBin ch e b v c).perfPhase, (writeBin ch e b v c).mainsPhase, (writeBin ch e b v c).mainsPeriod) =
      (c.perfPhase, c.mainsPhase, c.mainsPeriod) := by
  cases e <;> rfl

end

/-- R55: the phases and Pm as the statements gather them. -/
theorem timing_of_stands {s t : State} (h : TimingStands s t) :
    (t.canc.perfPhase, t.canc.mainsPhase, t.canc.mainsPeriod) =
      (s.canc.perfPhase, s.canc.mainsPhase, s.canc.mainsPeriod) := by
  rw [h.perfPhase, h.mainsPhase, h.mainsPeriod]

/-! ### Reads of consecutive bins (R70) -/

section

variable (p : TemplateParam) (s : State)

/-- R70: the part after the first `k` bins of READ_TEMPLATE have been read. -/
def binsRead (p : TemplateParam) (k : Nat) (s : State) : State :=
  (List.range k).foldl (fun t i => readBin p.channel p.engine (BitVec.ofNat 6 (p.first + i)) t) s

theorem readTemplateBins_eq : readTemplateBins p s = binsRead p (readTemplateCount p) s := rfl

theorem binsRead_succ (k : Nat) : binsRead p (k + 1) s =
    readBin p.channel p.engine (BitVec.ofNat 6 (p.first + k)) (binsRead p k s) := by
  rw [binsRead, List.range_succ, List.foldl_append]
  rfl

theorem binsRead_frame (k : Nat) : binsRead p k s = { s with
    canc := (binsRead p k s).canc, events := (binsRead p k s).events } := by
  induction k with
  | zero => rfl
  | succ k ih =>
    rw [binsRead_succ]
    refine (readBin_frame ..).trans ?_
    generalize (readBin _ _ _ _).canc = c, (readBin _ _ _ _).events = v
    rw [ih]
    rfl

/-- R70: the number of the bin that is read next. -/
theorem toNat_nextBin {k : Nat} (h : p.first + k < 64) : (BitVec.ofNat 6 (p.first + k)).toNat = p.first + k := by
  rw [BitVec.toNat_ofNat]
  exact Nat.mod_eq_of_lt h

/-- R61, R70: the bins that were read and failed are 0 with fresh parity, and no other bin changes. -/
theorem binCell_binsRead {k : Nat} (h : p.first + k ≤ 64) (ch : Channel) (e : Engine) (b : BitVec 6) :
    binCell (binsRead p k s).canc ch e b =
      if ch = p.channel ∧ e = p.engine ∧ p.first ≤ b.toNat ∧ b.toNat < p.first + k ∧
        cellOk (binCell s.canc p.channel p.engine b) = false
      then freshCell 0 else binCell s.canc ch e b := by
  induction k with
  | zero => rw [if_neg (by omega)]; rfl
  | succ k ih =>
    have place := toNat_nextBin p (k := k) (by omega)
    simp only [binsRead_succ, binCell_readBin, ih (by omega : p.first + k ≤ 64)]
    by_cases next : b = BitVec.ofNat 6 (p.first + k)
    · subst next
      grind
    · have other : b.toNat ≠ p.first + k := fun hb => next (BitVec.eq_of_toNat_eq (hb.trans place.symm))
      grind

/-- R61, R70: the failing bins are reported in order. -/
theorem events_binsRead {k : Nat} (h : p.first + k ≤ 64) : (binsRead p k s).events =
    ((List.range k).filter fun i => !cellOk (binCell s.canc p.channel p.engine (BitVec.ofNat 6 (p.first + i)))).foldl
      (fun ev i => takeRaising ⟨.memoryCorrected, some p.channel, s.film.tag, s.film.offset,
        some (BitVec.ofNat 32 ((match p.engine with | .perf => 0 | .mains => 2 ^ 30) + (p.first + i)))⟩ ev)
      s.events := by
  induction k with
  | zero => rfl
  | succ k ih =>
    have place := toNat_nextBin p (k := k) (by omega)
    have unread : binCell (binsRead p k s).canc p.channel p.engine (BitVec.ofNat 6 (p.first + k)) =
        binCell s.canc p.channel p.engine (BitVec.ofNat 6 (p.first + k)) := by
      rw [binCell_binsRead p s (by omega), if_neg (by omega)]
    rw [binsRead_succ, List.range_succ, List.filter_append, List.foldl_append, ← ih (by omega)]
    cases ok : cellOk (binCell s.canc p.channel p.engine (BitVec.ofNat 6 (p.first + k)))
    · rw [readBin_failing _ _ _ _ (unread.symm ▸ ok), binsRead_frame, templateSource_eq, place]
      simp [ok, withEvent]
    · rw [readBin_sound (unread.symm ▸ ok)]
      simp [ok]

end

/-! ### Loads of consecutive bins (R71) -/

/-- R71: the loaded bins take the values in order, and no other bin changes. -/
theorem binCell_loadBins (ch : Channel) (e : Engine) (vs : List Sample) {first : Nat} (h : first + vs.length ≤ 64)
    (c : Canceller) (ch' : Channel) (e' : Engine) (b : BitVec 6) : binCell (loadBins ch e first vs c) ch' e' b =
      if ch' = ch ∧ e' = e ∧ first ≤ b.toNat ∧ b.toNat < first + vs.length
      then freshCell (vs.getD (b.toNat - first) 0) else binCell c ch' e' b := by
  induction vs generalizing first c with
  | nil => rw [if_neg (by simp)]; rfl
  | cons v vs ih =>
    have room : first + 1 + vs.length ≤ 64 := by simpa [Nat.add_assoc, Nat.add_comm 1] using h
    have place : (BitVec.ofNat 6 first).toNat = first := by
      rw [BitVec.toNat_ofNat]; exact Nat.mod_eq_of_lt (by omega)
    rw [loadBins, ih room, binCell_writeBin]
    by_cases front : b = BitVec.ofNat 6 first
    · subst front
      simp [place]
    · have other : b.toNat ≠ first := fun hb => front (BitVec.eq_of_toNat_eq (hb.trans place.symm))
      by_cases after : first < b.toNat
      · have shift : b.toNat - first = b.toNat - (first + 1) + 1 := by omega
        have same : b.toNat < first + 1 + vs.length ↔ b.toNat < first + (v :: vs).length := by
          rw [List.length_cons]; omega
        simp only [front, and_false, if_false, shift, List.getD_cons_succ, same, Nat.succ_le_of_lt after, after.le]
      · rw [if_neg (by omega), if_neg (by simp [front]), if_neg (by omega)]

/-! ### Packed bins (R168) -/

/-- R168: the packed length of a list of bins. -/
theorem packBins_length (vs : List Sample) : (packBins vs).length = packedLength vs.length := by
  induction vs using packBins.induct with
  | case1 a b rest ih =>
    simp only [packBins, List.length_cons, ih, packedLength]
    split <;> split <;> omega
  | case2 a => simp [packBins, packedLength]
  | case3 => rfl

/-- R168: a packed bin is its own two parts. -/
theorem sample_parts (a : Sample) : a.extractLsb' 16 8 ++ a.extractLsb' 0 16 = a := by
  rw [BitVec.extractLsb'_append_extractLsb'_eq_extractLsb' (by rfl)]
  exact BitVec.extractLsb'_eq_self

/-- R168: packed bins carry the bins they were packed from. -/
theorem unpackBins_packBins (vs : List Sample) : unpackBins (packBins vs) = vs := by
  induction vs using packBins.induct with
  | case1 a b rest ih =>
    rw [packBins, unpackBins, ih, BitVec.extractLsb'_append_eq_right, BitVec.extractLsb'_append_eq_left, sample_parts,
      sample_parts]
  | case2 a => rw [packBins, unpackBins, BitVec.extractLsb'_append_eq_right, sample_parts]
  | case3 => rfl

/-! ### The commands (R70, R71, R168) -/

theorem channelNum_channelOf (n : Nat) : channelNum (channelOf n) = n % 4 := by
  have four : n % 4 = 0 ∨ n % 4 = 1 ∨ n % 4 = 2 ∨ n % 4 = 3 := by omega
  rcases four with h | h | h | h <;> simp [channelOf, h, channelNum]

/-- A word laid before another, as a number. -/
theorem toNat_append_add {m n : Nat} (x : BitVec m) (y : BitVec n) : (x ++ y).toNat = x.toNat * 2 ^ n + y.toNat := by
  rw [BitVec.toNat_append, Nat.shiftLeft_eq, ← Nat.shiftLeft_eq, Nat.shiftLeft_add_eq_or_of_lt y.isLt]

theorem wordBits_eq (w : Word) (lo n : Nat) : wordBits w lo n = w.toNat / 2 ^ lo % 2 ^ n := by
  rw [wordBits, BitVec.extractLsb'_toNat, Nat.shiftRight_eq_div_pow]

/-- R168: the parameters of the template commands as the bits of their word. -/
theorem templateParam_eq (w : Word) : templateParam w = ⟨channelOf (w.extractLsb' 0 2).toNat,
    if w.getLsbD 2 then .mains else .perf, (w.extractLsb' 3 6).toNat, (w.extractLsb' 9 6).toNat⟩ := by
  have bit : wordBits w 2 1 = (w.getLsbD 2).toNat := by
    rw [wordBits_eq, ← BitVec.testBit_toNat, Nat.toNat_testBit, pow_one]
  simp only [templateParam, bit]
  cases w.getLsbD 2 <;> rfl

/-- R70, R168: the reply's first word is the command's, with the number of bins returned. -/
theorem templateWord_eq (w : Word) {k : Nat} (h : k ≤ 32) :
    templateWord (templateParam w) k = 0#1 ++ BitVec.ofNat 6 k ++ w.extractLsb' 0 9 := by
  apply BitVec.eq_of_toNat_eq
  have engine : engineNum (templateParam w).engine = w.toNat / 4 % 2 := by
    rcases Nat.mod_two_eq_zero_or_one (w.toNat / 4) with h | h <;> simp [templateParam, wordBits_eq, h, engineNum]
  have channel : channelNum (templateParam w).channel = w.toNat % 4 := by
    simp [templateParam, channelNum_channelOf, wordBits_eq]
  have first : (templateParam w).first = w.toNat / 8 % 64 := wordBits_eq w 3 6
  rw [templateWord, channel, engine, first, wordOf, toNat_append_add, toNat_append_add, BitVec.extractLsb'_toNat]
  simp only [BitVec.toNat_ofNat, Nat.shiftRight_zero]
  omega

theorem exec_readTemplate {s : State} (h : Ready s) (w : Word) :
    exec (.readTemplate [w]) s = .next (cmdReadTemplate [w] (endAssembly s)) :=
  exec_ready (c := .readTemplate) (p := [w]) h (Nat.le_add_left 1 62)

/-- R70: READ_TEMPLATE with a count that it takes. -/
theorem exec_readTemplate_bins {s : State} (h : Ready s) {w : Word} (least : 1 ≤ (templateParam w).count)
    (most : (templateParam w).count ≤ 32) : exec (.readTemplate [w]) s =
      .next (readTemplateBins (templateParam w)
        (afterReply s 14 (0 :: readTemplateWords s.canc (templateParam w)))) := by
  rw [exec_readTemplate h, cmdReadTemplate, if_neg (by omega)]
  rfl

theorem exec_loadTemplate {s : State} (h : Ready s) {w : Word} {bins : List Word} (hb : bins.length ≤ 62) :
    exec (.loadTemplate (w :: bins)) s = .next (cmdLoadTemplate (w :: bins) (endAssembly s)) :=
  exec_ready (c := .loadTemplate) (p := w :: bins) h (Nat.succ_le_succ hb)

/-- R71: the parameters of LOAD_TEMPLATE are as they must be. -/
theorem loadTemplateSound_iff (p : TemplateParam) (bins : List Word) : loadTemplateSound p bins = true ↔
    1 ≤ p.count ∧ p.count ≤ 32 ∧ p.first + p.count ≤ 64 ∧ bins.length = 3 * (p.count / 2) + 2 * (p.count % 2) := by
  have odd : (if p.count % 2 = 1 then 2 else 0) = 2 * (p.count % 2) := by
    rcases Nat.mod_two_eq_zero_or_one p.count with h | h <;> simp [h]
  rw [loadTemplateSound, decide_eq_true_iff, packedLength, odd]

/-- R71: LOAD_TEMPLATE with parameters that are not as they must be. -/
theorem exec_loadTemplate_bad {s : State} (h : Ready s) {w : Word} {bins : List Word} (hb : bins.length ≤ 62)
    (bad : loadTemplateSound (templateParam w) bins = false) :
    exec (.loadTemplate (w :: bins)) s = .next (afterReply s 15 [6]) := by
  rw [exec_loadTemplate h hb, cmdLoadTemplate, bad]
  rfl

/-- R70, R168: the reply data of READ_TEMPLATE. -/
theorem readTemplateWords_eq (c : Canceller) (w : Word) (h : (templateParam w).count ≤ 32) :
    readTemplateWords c (templateParam w) =
    let p := templateParam w
    let k := min p.count (64 - p.first)
    (0#1 ++ BitVec.ofNat 6 k ++ w.extractLsb' 0 9) :: packBins ((List.range k).map fun i =>
      let b := binCell c p.channel p.engine (BitVec.ofNat 6 (p.first + i))
      if cellOk b then b.val else 0) := by
  have count : readTemplateCount (templateParam w) ≤ 32 := (Nat.min_le_left ..).trans h
  rw [readTemplateWords, templateWord_eq w count]
  rfl

/-- Settles O29: READ_TEMPLATE by `binsRead` and LOAD_TEMPLATE by `loadBins`, over the bits of the parameter word. -/
theorem templateCommands : Obligations.TemplateCommands := by
  refine ⟨fun s w h => ?_, fun s w rest h room => ?_, fun s w vs h => ?_⟩
  · intro ch e first count k
    have param : templateParam w = ⟨ch, e, first, count⟩ := templateParam_eq w
    refine ⟨fun out => ?_, fun least most => ?_⟩
    · rw [exec_readTemplate h, cmdReadTemplate, param, if_pos out]
      rfl
    · have words := readTemplateWords_eq s.canc w (by rw [param]; exact most)
      have within : first + k ≤ 64 := by
        have : first < 64 := BitVec.isLt _
        omega
      have run := exec_readTemplate_bins h (w := w) (by rwa [param]) (by rwa [param])
      rw [words, readTemplateBins_eq, param] at run
      refine ⟨_, run, binsRead_frame ..,
        (timing_of_stands (timingStands_readTemplateBins _ ⟨ch, e, first, count⟩)).trans rfl, ?_, ?_⟩
      · exact binCell_binsRead ⟨ch, e, first, count⟩ _ within
      · exact events_binsRead ⟨ch, e, first, count⟩ _ within
  · intro first count bad
    have param : templateParam w = ⟨_, _, first, count⟩ := templateParam_eq w
    refine exec_loadTemplate_bad h room (Bool.eq_false_iff.2 fun sound => ?_)
    obtain ⟨least, most, within, length⟩ := (loadTemplateSound_iff ..).1 (param ▸ sound)
    rcases bad with zero | many | past | other
    · exact absurd zero (Nat.one_le_iff_ne_zero.1 least)
    · exact absurd most (Nat.not_le.2 many)
    · exact absurd within (Nat.not_le.2 past)
    · exact other length
  · intro ch e first count least most length within
    have param : templateParam w = ⟨ch, e, first, count⟩ := templateParam_eq w
    have packed : (packBins vs).length = packedLength count := by rw [packBins_length, length]
    have sound : loadTemplateSound (templateParam w) (packBins vs) = true := by
      rw [param]
      exact decide_eq_true ⟨least, most, within, packed⟩
    have room : (packBins vs).length ≤ 62 := by
      rw [packed, packedLength]
      split <;> omega
    rw [exec_loadTemplate h room, cmdLoadTemplate, sound, param, unpackBins_packBins]
    refine ⟨fun busy => ?_, fun idle => ⟨_, rfl, ?_⟩⟩
    · rw [if_neg (by simp), if_pos (by exact busy)]
      rfl
    · rw [if_neg (by simp), if_neg (by exact not_not_intro idle)]
      have timing := timing_of_stands (timingStands_loadBins (afterReply s 15 [0]) ch e first vs)
      refine ⟨rfl, timing, ?_⟩
      rw [← length] at within ⊢
      exact binCell_loadBins ch e vs within s.canc

end Sys2Proof.NoiseTemplates
end

section
/-! Adaptation (R57, R61, R62, R64 to R67, R176): one engine, when it adapts, and a whole release. -/

namespace Sys2Proof.NoiseTemplates

open Sys2Proof Sys2Proof.Machine Sys2Proof.Safety Sys2Proof.SampleLink Sys2Proof.StreamRing Sys2Proof.FilmPosition

/-! ### A fault under the policy REPORT (R176) -/

/-- R176: with the capture record empty and a sound policy REPORT a fault is captured and reported, and no more. -/
theorem takeFault_reported {k : FaultKind} {s : State} (ch : Option Channel) (e : Option Engine)
    (empty : s.fault.capture = none) (sound : fieldOk (storedField s s.tables.active (policyField k)) = true)
    (report : setting s s.tables.active (policyField k) = 0) : takeFault k ch e s =
      withEvent .fault ch (some (faultParam k e))
        (s.setFault { s.fault with capture := some (captureOf s k ch e) }) := by
  set t := raise .fault ch (some (faultParam k e)) (s.setFault { s.fault with capture := some (captureOf s k ch e) })
    with taken
  have read : notePolicy k t = t := if_pos sound
  have stays : ¬ (activeSetting t (policyField k) = 1 ∧ t.fault.mode = .normal) := by
    rintro ⟨bypass, -⟩
    exact absurd (report.symm.trans bypass) (by decide)
  unfold takeFault takeFaultWith
  simp only [empty]
  rw [← taken, read, if_neg stays]
  rfl

/-! ### One bin (R65 to R67) -/

theorem clips_eq_true_iff (i : Int) : clips i = true ↔ i < -8388608 ∨ 8388607 < i := decide_eq_true_iff

section

variable (bank : BankId) (ch : Channel) (e : Engine) (b : BitVec 6) (v : Sample) (s : State)

/-- R61, R66: what an engine's adaptation puts into a bin that held `old`, a failing one being taken as 0. -/
def adaptedCell (bank : BankId) (ch : Channel) (e : Engine) (v : Sample) (s : State) (old : Cell) : Cell :=
  freshCell (saturate24 (adaptedSum (if cellOk old then old.val else 0) v.toInt (setting s bank (shiftField ch e))))

/-- R66, R67: an adaptation with a sound shift: the read of the bin, its write, and the fault of a clamped sum. -/
theorem adaptBin_eq (h : fieldOk (storedField s bank (shiftField ch e)) = true) : adaptBin bank ch e b v s =
    let sum := adaptedSum (binValue s.canc ch e b) v.toInt (setting s bank (shiftField ch e))
    let t := (readBin ch e b s).setCanc (writeBin ch e b (saturate24 sum) (readBin ch e b s).canc)
    if clips sum then takeFault .templateSaturation (some ch) (some e) t else t := by
  rw [adaptBin, note_sound h]

/-- R66: an adaptation writes its bin, and no other. -/
theorem binCell_adaptBin (h : fieldOk (storedField s bank (shiftField ch e)) = true) (ch' : Channel) (e' : Engine)
    (b' : BitVec 6) : binCell (adaptBin bank ch e b v s).canc ch' e' b' =
      if ch' = ch ∧ e' = e ∧ b' = b then adaptedCell bank ch e v s (binCell s.canc ch e b)
      else binCell s.canc ch' e' b' := by
  have canc (c : Bool) (t : State) :
      (if c then takeFault .templateSaturation (some ch) (some e) t else t).canc = t.canc := by
    cases c
    · rfl
    · exact (inner_takeFault ..).canc
  rw [adaptBin_eq bank ch e b v s h, canc, State.setCanc_canc, binCell_writeBin, binCell_readBin]
  by_cases here : ch' = ch ∧ e' = e ∧ b' = b
  · rw [if_pos here, if_pos here]
    rfl
  · rw [if_neg here, if_neg here, if_neg (fun k => here k.1)]

/-- R66, R67: the part after an adaptation from a sound shift and a sound bin. -/
theorem adaptBin_sound (hf : fieldOk (storedField s bank (shiftField ch e)) = true)
    (hb : cellOk (binCell s.canc ch e b) = true) : adaptBin bank ch e b v s =
      let sum := adaptedSum (binCell s.canc ch e b).val v.toInt (setting s bank (shiftField ch e))
      let t := s.setCanc (writeBin ch e b (saturate24 sum) s.canc)
      if clips sum then takeFault .templateSaturation (some ch) (some e) t else t := by
  rw [adaptBin_eq bank ch e b v s hf, readBin_sound hb, binValue, if_pos hb]

end

/-! ### When an engine adapts (R62, R64, R65) -/

theorem isHeld_eq_false_iff (h : HoldSet) : isHeld h = false ↔ h = ⟨false, false, false, false, false⟩ := by
  cases h
  simp [isHeld, and_assoc]

theorem adaptable_iff (f : RecFlags) : adaptable f = true ↔
    (f.flagged, f.repaired, f.held, f.link, f.memory) = (false, false, false, false, false) := by
  simp [adaptable, and_assoc]

/-- R62: an engine is held by none of its hold reasons. -/
theorem isHeld_holdSet_iff (s : State) (b : BankId) (ch : Channel) (e : Engine) : isHeld (holdSet s b ch e) = false ↔
    selected s b ch = true ∧ setting s b (enableField ch e) ≠ 0 ∧ s.film.guard = 0 ∧
      (e = .perf → s.tracker.state = .locked) ∧ s.fault.mode = .normal ∧
      (s.stream.state = .priming ∨ s.stream.state = .running) := by
  have moving : (s.stream.state == .idle || s.stream.state == .draining) = false ↔
      s.stream.state = .priming ∨ s.stream.state = .running := by
    cases s.stream.state <;> decide
  have tracked : (e == .perf && s.tracker.state != .locked) = false ↔ (e = .perf → s.tracker.state = .locked) := by
    simp
  rw [isHeld_eq_false_iff, holdSet, HoldSet.mk.injEq, tracked, moving]
  simp [isSet, and_assoc]

/-- R65: whether an engine adapts from a released record. -/
def adaptsFrom (r : FrameRecord) (active : Bool) (hold : HoldSet) (failed : Bool) (ch : Channel) (e : Engine) : Bool :=
  r.processed && active && !failed && adaptable (r.entries.get ch).flags && !noAdapt (r.entries.get ch).flags e &&
    !isHeld hold

theorem adaptsFrom_iff (r : FrameRecord) (active : Bool) (hold : HoldSet) (failed : Bool) (ch : Channel) (e : Engine) :
    adaptsFrom r active hold failed ch e = true ↔
      let f := (r.entries.get ch).flags
      r.processed = true ∧ active = true ∧ failed = false ∧
        (f.flagged, f.repaired, f.held, f.link, f.memory) = (false, false, false, false, false) ∧
        noAdapt f e = false ∧ isHeld hold = false := by
  simp only [adaptsFrom, Bool.and_eq_true, adaptable_iff, Bool.not_eq_true', and_assoc]

theorem adaptsFrom_congr (r : FrameRecord) (active failed : Bool) (ch : Channel) (e : Engine) {h k : HoldSet}
    (hk : isHeld h = isHeld k) : adaptsFrom r active h failed ch e = adaptsFrom r active k failed ch e := by
  rw [adaptsFrom, adaptsFrom, hk]

theorem adaptEngine_eq (r : FrameRecord) (active : Bool) (hold : HoldSet) (failed : Bool) (v : Sample) (ch : Channel)
    (e : Engine) (s : State) : adaptEngine r active hold failed v ch e s =
      if adaptsFrom r active hold failed ch e then adaptBin r.bank ch e (storedBin (r.entries.get ch) e) v s else s :=
  rfl

/-! ### A released record (R31, R64 to R67) -/

/-- R62, R65, R66: what the adaptation from a released record makes of a bin that held `old`. -/
def recordCell (r : FrameRecord) (mask : Nat) (v : Quad Sample) (hold : Channel → Engine → HoldSet) (s : State)
    (ch : Channel) (e : Engine) (b : BitVec 6) (old : Cell) : Cell :=
  if adaptsFrom r (inMask mask ch) (hold ch e) (failsRelease r ch) ch e = true ∧ b = storedBin (r.entries.get ch) e
  then adaptedCell r.bank ch e (v.get ch) s old else old

theorem binCell_adaptEngine {s : State} (h : SoundTables s) (r : FrameRecord) (active : Bool) (hold : HoldSet)
    (failed : Bool) (v : Sample) (c : Channel) (g : Engine) (ch : Channel) (e : Engine) (b : BitVec 6) :
    binCell (adaptEngine r active hold failed v c g s).canc ch e b =
      if ch = c ∧ e = g ∧ adaptsFrom r active hold failed c g = true ∧ b = storedBin (r.entries.get c) g
      then adaptedCell r.bank c g v s (binCell s.canc c g b) else binCell s.canc ch e b := by
  rw [adaptEngine_eq]
  split
  · next adapts =>
    rw [binCell_adaptBin _ _ _ _ _ _ (h _ _)]
    grind
  · next stays => rw [if_neg (fun k => stays k.2.2.1)]

/-- R136: the adapted value rests on the settings alone. -/
theorem adaptedCell_of_kept {s t : State} (h : Kept s t) (bank : BankId) (ch : Channel) (e : Engine) (v : Sample) :
    adaptedCell bank ch e v t = adaptedCell bank ch e v s := by
  funext old
  rw [adaptedCell, adaptedCell, h.setting]

/-- An operation that works on each channel's own bins, seen at one bin. -/
theorem binCell_eachChannel {f : Channel → State → State} {cell : Channel → Engine → BitVec 6 → Cell → Cell} {s : State}
    (kept : ∀ c t, Kept t (f c t))
    (bins : ∀ c t, Kept s t → ∀ ch e b, binCell (f c t).canc ch e b =
      if ch = c then cell c e b (binCell t.canc c e b) else binCell t.canc ch e b)
    (ch : Channel) (e : Engine) (b : BitVec 6) :
    binCell (eachChannel f s).canc ch e b = cell ch e b (binCell s.canc ch e b) := by
  have k1 := kept .ch0 s
  have k2 := k1.trans (kept .ch1 _)
  have k3 := k2.trans (kept .ch2 _)
  have b0 := bins .ch0 s (.refl s)
  have b1 := bins .ch1 _ k1
  have b2 := bins .ch2 _ k2
  have b3 := bins .ch3 _ k3
  cases ch <;> simp [eachChannel, b0, b1, b2, b3]

/-- R64 to R67: the adaptation from a released record, with sound tables. -/
theorem binCell_adaptRecord {s : State} (h : SoundTables s) (r : FrameRecord) (mask : Nat) (v : Quad Sample)
    (hold : Channel → Engine → HoldSet) (ch : Channel) (e : Engine) (b : BitVec 6) :
    binCell (adaptRecord r mask v (Quad.build fun c => hold c .perf) (Quad.build fun c => hold c .mains) s).canc
      ch e b = recordCell r mask v hold s ch e b (binCell s.canc ch e b) := by
  refine binCell_eachChannel (cell := recordCell r mask v hold s)
    (fun _ _ => (kept_adaptEngine ..).trans (kept_adaptEngine ..)) (fun c t k ch e b => ?_) ch e b
  have sound : SoundTables t := soundTables_of_banks h k.bank0 k.bank1
  have k1 := kept_adaptEngine r (inMask mask c) (hold c .perf) (failsRelease r c) (v.get c) c .perf t
  have sound1 := soundTables_of_banks sound k1.bank0 k1.bank1
  simp only [Quad.get_build]
  rw [binCell_adaptEngine sound1, adaptedCell_of_kept (k.trans k1), binCell_adaptEngine sound,
    binCell_adaptEngine sound, adaptedCell_of_kept k]
  by_cases hc : ch = c
  · subst hc
    cases e <;> simp [recordCell]
  · simp [hc]

/-- An operation that raises an event on some channels, in the part that stands beside the events. -/
theorem eachChannel_events {f : Channel → State → State} {p : Channel → Bool} {g : Channel → Events → Events}
    {s : State} (h : ∀ ch v, f ch (s.setEvents v) = s.setEvents (if p ch then g ch v else v)) : eachChannel f s =
      s.setEvents (([Channel.ch0, .ch1, .ch2, .ch3].filter p).foldl (fun v ch => g ch v) s.events) := by
  have start : s = s.setEvents s.events := rfl
  rw [List.foldl_filter]
  conv_lhs => rw [start]
  simp only [eachChannel, h, List.foldl_cons, List.foldl_nil]

/-- R108: the failing values of a released record are reported, channels 0 to 3. -/
theorem releaseMarks_eq (r : FrameRecord) (mask : Nat) (s : State) : releaseMarks r mask s =
    s.setEvents (([Channel.ch0, .ch1, .ch2, .ch3].filter fun ch => inMask mask ch && failsRelease r ch).foldl
      (fun v ch => takeRaising ⟨.memoryCorrected, some ch, s.film.tag, s.film.offset, some (ringParam r.serial)⟩ v)
      s.events) := by
  refine eachChannel_events (p := fun ch => inMask mask ch && failsRelease r ch)
    (g := fun ch v => takeRaising ⟨.memoryCorrected, some ch, s.film.tag, s.film.offset, some (ringParam r.serial)⟩ v)
    fun ch v => ?_
  cases inMask mask ch && failsRelease r ch <;> rfl

theorem noteHolds_of_sound {s : State} (h : SoundTables s) (r : FrameRecord) (mask : Nat) : noteHolds r mask s = s := by
  simp [noteHolds, note_of_sound h, eachChannel]

theorem noteHiss_of_sound {s : State} (h : SoundTables s) (r : FrameRecord) (active failed : Bool) (y : Int)
    (ch : Channel) : noteHiss r active failed y ch s = s := by
  simp [noteHiss, note_of_sound h]

/-- R124: with sound tables the hiss reducer's work on a record is its new state alone. -/
theorem hissRecord_of_sound {s : State} (h : SoundTables s) (r : FrameRecord) (mask : Nat) (checked : Quad Sample) :
    hissRecord r mask checked s = s.setHiss (Quad.build (hissNext s r mask checked)) := by
  rw [hissRecord, eachChannel_id fun ch => noteHiss_of_sound h ..]

/-- R31: a release is the hiss reducer's work on the adapted part, and the values that depart. -/
theorem release_eq {s : State} {r : FrameRecord} {rest : List FrameRecord} (hr : s.ring = r :: rest) :
    ∃ o, release s = ((hissRecord r (setting (emptied rest s) r.bank (.stream .channelMask))
      (Quad.build (checkedValue (note r.bank (.stream .channelMask) (emptied rest s)) r))
      (adapted r rest s)).setOut o).setLastOut (released r rest s) :=
  ⟨_, by rw [release, hr]; rfl⟩

/-- R62, R64: the holds of the state at the release are those under which its record is adapted from. -/
theorem isHeld_release (s : State) (r : FrameRecord) (rest : List FrameRecord) (b : BankId)
    (ch : Channel) (e : Engine) (mask : Nat) :
    isHeld (holdSet (releaseMarks r mask (emptied rest s)) b ch e) = isHeld (holdSet s b ch e) := by
  have selects : selected (releaseMarks r mask (emptied rest s)) b ch = selected s b ch := by
    rw [selected, releaseMarks_eq]
    exact congrArg (inMask · ch) (setting_emptied rest s b _)
  have enabled : setting (releaseMarks r mask (emptied rest s)) b (enableField ch e) =
      setting s b (enableField ch e) := by
    rw [releaseMarks_eq]
    exact setting_emptied rest s b _
  have moves : ((emptied rest s).stream.state = .priming ∨ (emptied rest s).stream.state = .running) ↔
      (s.stream.state = .priming ∨ s.stream.state = .running) := by
    rw [emptied_eq]
    by_cases drained : s.stream.state = .draining ∧ rest = []
    · simp [drained.1, drained.2]
    · simp only [if_neg drained]
  rw [← Bool.not_inj_iff, Bool.eq_iff_iff, Bool.not_eq_true', Bool.not_eq_true', isHeld_holdSet_iff, isHeld_holdSet_iff,
    selects, enabled, releaseMarks_eq]
  simp only [State.setEvents_film, State.setEvents_tracker, State.setEvents_fault, State.setEvents_stream, moves]
  rw [emptied_eq]

section

variable {s : State} (h : SoundTables s) (r : FrameRecord) (rest : List FrameRecord)

include h

theorem soundTables_emptied : SoundTables (emptied rest s) := by
  rw [emptied_eq]
  exact soundTables_of_banks h rfl rfl

theorem soundTables_adapted : SoundTables (adapted r rest s) :=
  soundTables_of_banks (soundTables_emptied h rest) (kept_adapted r rest s).bank0 (kept_adapted r rest s).bank1

theorem soundTables_marked (mask : Nat) : SoundTables (releaseMarks r mask (emptied rest s)) :=
  soundTables_of_banks (soundTables_emptied h rest) (kept_releaseMarks ..).bank0 (kept_releaseMarks ..).bank1

/-- R31: with sound tables the adaptation follows the reports of the failing values. -/
theorem adapted_of_sound : adapted r rest s =
    let mask := setting s r.bank (.stream .channelMask)
    let v := releaseMarks r mask (emptied rest s)
    adaptRecord r mask (Quad.build (checkedValue (emptied rest s) r)) (Quad.build fun ch => holdSet v r.bank ch .perf)
      (Quad.build fun ch => holdSet v r.bank ch .mains) v := by
  rw [adapted, note_of_sound (soundTables_emptied h rest), setting_emptied,
    noteHolds_of_sound (soundTables_marked h r rest _)]

/-- R31, R66: with sound tables a release changes the bins by its adaptation alone. -/
theorem release_canc (hr : s.ring = r :: rest) : (release s).canc = (adapted r rest s).canc := by
  obtain ⟨o, stages⟩ := release_eq hr
  rw [stages, hissRecord_of_sound (soundTables_adapted h r rest)]
  rfl

/-- R64 to R67: with sound tables, every bin after a release. -/
theorem binCell_release (hr : s.ring = r :: rest) (ch : Channel) (e : Engine) (b : BitVec 6) :
    binCell (release s).canc ch e b =
      if adaptsFrom r (selected s r.bank ch) (holdSet s r.bank ch e) (failsRelease r ch) ch e = true ∧
        b = storedBin (r.entries.get ch) e
      then adaptedCell r.bank ch e (r.entries.get ch).cell.val s (binCell s.canc ch e b)
      else binCell s.canc ch e b := by
  set mask := setting s r.bank (.stream .channelMask)
  have marked := soundTables_marked h r rest mask
  have canc : (releaseMarks r mask (emptied rest s)).canc = s.canc := by rw [releaseMarks_eq, emptied_eq]; rfl
  have value (old : Cell) :
      adaptedCell r.bank ch e (r.entries.get ch).cell.val (releaseMarks r mask (emptied rest s)) old =
        adaptedCell r.bank ch e (r.entries.get ch).cell.val s old := by
    rw [adaptedCell_of_kept (kept_releaseMarks ..), adaptedCell, setting_emptied]
    rfl
  have condition := adaptsFrom_congr r (inMask mask ch) (failsRelease r ch) ch e
    (isHeld_release s r rest r.bank ch e mask)
  rw [release_canc h r rest hr, adapted_of_sound h, binCell_adaptRecord marked r mask _ (holdSet _ r.bank), recordCell,
    canc, condition]
  by_cases adapts : adaptsFrom r (selected s r.bank ch) (holdSet s r.bank ch e) (failsRelease r ch) ch e = true
  · have checked : checkedValue (emptied rest s) r ch = (r.entries.get ch).cell.val := by
      obtain ⟨-, -, ok, -⟩ := (adaptsFrom_iff ..).1 adapts
      rw [checkedValue, ok]
      rfl
    rw [Quad.get_build, checked, value]
    rfl
  · rw [if_neg (fun k => adapts k.1), if_neg (fun k => adapts k.1)]

end

/-- R67: a clamped sum under a sound policy REPORT, with the capture record empty. -/
theorem takeFault_saturation {s : State} (ch : Channel) (e : Engine) (empty : s.fault.capture = none)
    (sound : fieldOk (storedField s s.tables.active (.stream .policyTemplate)) = true)
    (report : setting s s.tables.active (.stream .policyTemplate) = 0) :
    takeFault .templateSaturation (some ch) (some e) s =
      withEvent .fault (some ch) (some (match e with | .perf => 3 | .mains => 5))
        (s.setFault { s.fault with capture := some (captureOf s .templateSaturation (some ch) (some e)) }) := by
  rw [takeFault_reported (k := .templateSaturation) _ _ empty sound report]
  cases e <;> rfl

/-- Settles O51: one adaptation by `adaptBin_sound`, its condition by `adaptsFrom_iff`, and the release by
`binCell_release`. -/
theorem adaptationUpdatesOneBin : Obligations.AdaptationUpdatesOneBin := by
  refine ⟨fun s bank ch e b v => ?_, fun s r active failed hold v ch e => ?_, fun s r rest hr h => ⟨?_, ?_⟩⟩
  · intro field hf hb sum t
    have shift : shiftField ch e = field := rfl
    have sound : fieldOk (storedField s bank (shiftField ch e)) = true := by rw [shift]; exact hf
    have taken : adaptedSum (binCell s.canc ch e b).val v.toInt (setting s bank (shiftField ch e)) = sum := by
      rw [shift]; rfl
    have run : t = _ := adaptBin_sound bank ch e b v s sound hb
    simp only [taken] at run
    refine ⟨?_, timing_of_stands (timingStands_adaptBin ..), fun least most => ?_, fun out empty ok report => ?_⟩
    · have cell : adaptedCell bank ch e v s (binCell s.canc ch e b) =
          freshCell (BitVec.ofInt 24 (max (-8388608) (min 8388607 sum))) := by
        rw [adaptedCell, if_pos hb, taken]
        rfl
      intro ch' e' b'
      rw [← cell]
      exact binCell_adaptBin bank ch e b v s sound ch' e' b'
    · have inside : ¬ clips sum = true := fun h => by rcases (clips_eq_true_iff _).1 h with h | h <;> omega
      rw [if_neg inside] at run
      rw [run]
      rfl
    · have reported := takeFault_saturation (s := s.setCanc (writeBin ch e b (saturate24 sum) s.canc)) ch e empty ok
        report
      rw [if_pos ((clips_eq_true_iff _).2 out), reported] at run
      rw [run]
      rfl
  · intro en f
    rw [adaptEngine_eq]
    have condition := adaptsFrom_iff r active hold failed ch e
    rw [isHeld_eq_false_iff] at condition
    exact if_congr condition rfl rfl
  · exact timing_of_stands (timingStands_release s)
  · intro ch e b en f enable shift old adapts
    rw [binCell_release h r rest hr]
    have zero : BitVec.toInt (0 : Sample) = 0 := rfl
    have sound : failsRelease r ch = false ↔ cellOk en.cell = true := by simp [failsRelease, en]
    have condition : adaptsFrom r (selected s r.bank ch) (holdSet s r.bank ch e) (failsRelease r ch) ch e = true ↔
        adapts := by
      rw [adaptsFrom_iff, isHeld_holdSet_iff, sound]
      exact ⟨fun ⟨processed, active, ok, free, quiet, _, holds⟩ => ⟨processed, active, ok, free, quiet, holds⟩,
        fun ⟨processed, active, ok, free, quiet, holds⟩ => ⟨processed, active, ok, free, quiet, active, holds⟩⟩
    have value : adaptedCell r.bank ch e en.cell.val s old = freshCell (BitVec.ofInt 24 (max (-8388608) (min 8388607
        ((if cellOk old then old.val.toInt else 0) + en.cell.val.toInt / (2 ^ setting s r.bank shift : Int))))) := by
      rw [adaptedCell, adaptedSum, apply_ite BitVec.toInt, zero]
      rfl
    exact if_congr (and_congr condition Iff.rfl) value rfl

end Sys2Proof.NoiseTemplates
end

section
/-! QUERY_STATUS (R62, R73, R161, R166, R169): the fields of the status words at their bits. -/

namespace Sys2Proof.NoiseTemplates

open Sys2Proof Sys2Proof.Machine Sys2Proof.Safety Sys2Proof.SampleLink Sys2Proof.StreamRing Sys2Proof.FilmPosition

/-! ### Fields of a word (R166) -/

/-- R166: the field of a word at a place, as the number found there. -/
theorem extract_wordOf {n lo w v : Nat} (fits : lo + w ≤ 16) (h : n / 2 ^ lo % 2 ^ w = v % 2 ^ w) :
    (wordOf n).extractLsb' lo w = BitVec.ofNat w v := by
  apply BitVec.eq_of_getLsbD_eq
  intro i hi
  have place : n.testBit (lo + i) = v.testBit i := by
    have same := congrArg (Nat.testBit · i) h
    simpa [Nat.testBit_mod_two_pow, hi, Nat.testBit_div_two_pow, Nat.add_comm] using same
  have inside : lo + i < 16 := by omega
  rw [BitVec.getLsbD_extractLsb', wordOf, BitVec.getLsbD_ofNat, BitVec.getLsbD_ofNat, place]
  simp [hi, inside]

/-- R166: one bit of a word. -/
theorem getLsbD_wordOf {n i : Nat} {b : Bool} (fits : i < 16) (h : n / 2 ^ i % 2 = bit b) :
    (wordOf n).getLsbD i = b := by
  rw [wordOf, BitVec.getLsbD_ofNat, Nat.testBit_eq_decide_div_mod_eq, h]
  cases b <;> simp [bit, fits]

theorem bit_le_one (b : Bool) : bit b ≤ 1 := by cases b <;> decide

/-- R169: a set of five flags within a word, the first of them lowest. -/
theorem flags_wordOf {n k : Nat} {a b c d e : Bool} (fits : k + 5 ≤ 16)
    (h : n / 2 ^ k % 32 = bit a + 2 * bit b + 4 * bit c + 8 * bit d + 16 * bit e) :
    (wordOf n).getLsbD k = a ∧ (wordOf n).getLsbD (k + 1) = b ∧ (wordOf n).getLsbD (k + 2) = c ∧
      (wordOf n).getLsbD (k + 3) = d ∧ (wordOf n).getLsbD (k + 4) = e := by
  have flag (i : Nat) {x : Bool} (hi : i < 5) (hx : n / 2 ^ k / 2 ^ i % 2 = bit x) : (wordOf n).getLsbD (k + i) = x :=
    getLsbD_wordOf (by omega) (by rwa [Nat.pow_add, ← Nat.div_div_eq_div_mul])
  have ha := bit_le_one a
  have hb := bit_le_one b
  have hc := bit_le_one c
  have hd := bit_le_one d
  have he := bit_le_one e
  refine ⟨flag 0 ?_ ?_, flag 1 ?_ ?_, flag 2 ?_ ?_, flag 3 ?_ ?_, flag 4 ?_ ?_⟩ <;> omega

theorem wordOf_miss (m : BitVec 8) : wordOf m.toNat = 0#8 ++ m := by
  apply BitVec.eq_of_toNat_eq
  rw [wordOf, toNat_append_add, BitVec.toNat_ofNat, BitVec.toNat_ofNat, Nat.zero_mod, Nat.zero_mul, Nat.zero_add]
  exact Nat.mod_eq_of_lt (by omega)

/-- R166: a frame tag as two words. -/
theorem twoWordsNat_tag (tag : BitVec 24) :
    twoWordsNat tag.toNat = [tag.extractLsb' 0 16, 0#8 ++ tag.extractLsb' 16 8] := by
  have low : (BitVec.ofNat 32 tag.toNat).extractLsb' 0 16 = tag.extractLsb' 0 16 := by
    apply BitVec.eq_of_toNat_eq
    simp only [BitVec.extractLsb'_toNat, BitVec.toNat_ofNat]
    omega
  have high : (BitVec.ofNat 32 tag.toNat).extractLsb' 16 16 = 0#8 ++ tag.extractLsb' 16 8 := by
    apply BitVec.eq_of_toNat_eq
    rw [toNat_append_add]
    simp only [BitVec.extractLsb'_toNat, BitVec.toNat_ofNat]
    omega
  rw [twoWordsNat, twoWords, low, high]

/-! ### Codes (R169) -/

theorem streamStateNum_le (x : StreamState) : streamStateNum x ≤ 3 := by cases x <;> decide

theorem modeNum_le (x : Mode) : modeNum x ≤ 2 := by cases x <;> decide

theorem trackerStateNum_le (x : TrackerState) : trackerStateNum x ≤ 3 := by cases x <;> decide

theorem engineStateNum_le (x : StoreOp) : engineStateNum x ≤ 3 := by
  cases x with
  | ready => decide
  | erasing => exact Nat.le_add_left 1 2
  | programming => exact Nat.le_add_left 2 1
  | recalling => exact Nat.le_refl 3
  | booting => decide

theorem pendingNum_le (x : Option Trigger) : pendingNum x ≤ 3 := by
  cases x with
  | none => decide
  | some t => cases t <;> decide

theorem linkCondNum_eq (x : LinkCond) : linkCondNum x = bit (x == .lost) := by cases x <;> rfl

theorem bankNum_eq (b : BankId) : b.num = bit (b == .b1) := by cases b <;> rfl

theorem bankStateNum_le (t : Tables) (b : BankId) : bankStateNum t b ≤ 3 := by
  unfold bankStateNum
  split
  · decide
  · cases t.other <;> decide

/-- R169: a set of five flags as a number. -/
theorem flags_le (a b c d e : Bool) : bit a + 2 * bit b + 4 * bit c + 8 * bit d + 16 * bit e ≤ 31 := by
  have ha := bit_le_one a
  have hb := bit_le_one b
  have hc := bit_le_one c
  have hd := bit_le_one d
  have he := bit_le_one e
  omega

theorem holdNum_le (h : HoldSet) : holdNum h ≤ 31 := flags_le ..

theorem contextNum_le (c : Option Context) : contextNum c ≤ 2 := by
  cases c with
  | none => decide
  | some c => rw [contextNum]; split <;> decide

theorem historyDepth_le (h : History) : historyDepth h ≤ 2 := by
  cases h <;> simp [historyDepth]

/-! ### Part 0 (R169) -/

section

variable (s : State)

/-- R169: word 2 of part 0. -/
theorem status0Word2_fields : let w := wordOf (status0Word2 s)
    w.extractLsb' 0 3 = 0 ∧ w.extractLsb' 3 2 = BitVec.ofNat 2 (streamStateNum s.stream.state) ∧
      w.getLsbD 5 = s.stream.armed ∧ w.getLsbD 6 = (s.link.cond == .lost) ∧
      w.extractLsb' 7 2 = BitVec.ofNat 2 (modeNum s.fault.mode) ∧ w.getLsbD 9 = s.fault.capture.isSome ∧
      w.getLsbD 10 = s.fault.double ∧ w.getLsbD 11 = (s.tables.active == .b1) ∧
      w.extractLsb' 12 4 = BitVec.ofNat 4 (pendingNum s.tables.pendingX) := by
  have state := streamStateNum_le s.stream.state
  have mode := modeNum_le s.fault.mode
  have pending := pendingNum_le s.tables.pendingX
  have armed := bit_le_one s.stream.armed
  have lost := bit_le_one (s.link.cond == .lost)
  have captured := bit_le_one s.fault.capture.isSome
  have double := bit_le_one s.fault.double
  have bank := bit_le_one (s.tables.active == .b1)
  simp only [status0Word2, linkCondNum_eq, bankNum_eq]
  refine ⟨extract_wordOf (v := 0) ?_ ?_, extract_wordOf ?_ ?_, getLsbD_wordOf ?_ ?_, getLsbD_wordOf ?_ ?_,
    extract_wordOf ?_ ?_, getLsbD_wordOf ?_ ?_, getLsbD_wordOf ?_ ?_, getLsbD_wordOf ?_ ?_, extract_wordOf ?_ ?_⟩ <;>
    omega

/-- R169: word 3 of part 0. -/
theorem status0Word3_fields (h : s.cmd.replies.length ≤ 2) : let w := wordOf (status0Word3 s)
    w.extractLsb' 0 2 = BitVec.ofNat 2 (bankStateNum s.tables .b0) ∧
      w.extractLsb' 2 2 = BitVec.ofNat 2 (bankStateNum s.tables .b1) ∧ w.getLsbD 4 = s.tables.fault0 ∧
      w.getLsbD 5 = s.tables.fault1 ∧ w.extractLsb' 6 2 = BitVec.ofNat 2 (trackerStateNum s.tracker.state) ∧
      w.getLsbD 8 = s.tracker.firstSeen ∧ w.getLsbD 9 = s.log.overrunReported ∧ w.getLsbD 10 = oldestOpen s.log ∧
      w.extractLsb' 11 2 = BitVec.ofNat 2 s.cmd.replies.length ∧
      w.extractLsb' 13 3 = BitVec.ofNat 3 (engineStateNum s.store.op) := by
  have bank0 := bankStateNum_le s.tables .b0
  have bank1 := bankStateNum_le s.tables .b1
  have tracker := trackerStateNum_le s.tracker.state
  have engine := engineStateNum_le s.store.op
  have fault0 := bit_le_one s.tables.fault0
  have fault1 := bit_le_one s.tables.fault1
  have first := bit_le_one s.tracker.firstSeen
  have overrun := bit_le_one s.log.overrunReported
  have oldest := bit_le_one (oldestOpen s.log)
  simp only [status0Word3]
  refine ⟨extract_wordOf ?_ ?_, extract_wordOf ?_ ?_, getLsbD_wordOf ?_ ?_, getLsbD_wordOf ?_ ?_, extract_wordOf ?_ ?_,
    getLsbD_wordOf ?_ ?_, getLsbD_wordOf ?_ ?_, getLsbD_wordOf ?_ ?_, extract_wordOf ?_ ?_, extract_wordOf ?_ ?_⟩ <;>
    omega

/-- R169: word 4 of part 0. -/
theorem status0Word4_fields : let w := wordOf (status0Word4 s)
    w.getLsbD 0 = s.store.slots.c0.valid ∧ w.getLsbD 1 = s.store.slots.c1.valid ∧
      w.getLsbD 2 = s.store.slots.c2.valid ∧ w.getLsbD 3 = s.store.slots.c3.valid ∧
      w.extractLsb' 4 12 = BitVec.ofNat 12 s.events.queue.length := by
  have slot0 := bit_le_one s.store.slots.c0.valid
  have slot1 := bit_le_one s.store.slots.c1.valid
  have slot2 := bit_le_one s.store.slots.c2.valid
  have slot3 := bit_le_one s.store.slots.c3.valid
  simp only [status0Word4]
  refine ⟨getLsbD_wordOf ?_ ?_, getLsbD_wordOf ?_ ?_, getLsbD_wordOf ?_ ?_, getLsbD_wordOf ?_ ?_,
    extract_wordOf ?_ ?_⟩ <;> omega

/-- R110: the oldest unread entry is the one that a reading would stop at. -/
theorem oldestOpen_eq (l : DefectLog) :
    oldestOpen l = (unreadEntries l).head?.any (fun e => e.outcome == .stillOpen) := by
  unfold oldestOpen
  cases unreadEntries l <;> rfl

/-- R140: the code of a bank's state as the statements write it. -/
theorem bankState_eq (t : Tables) (b : BankId) : BitVec.ofNat 2 (bankStateNum t b) =
    (if b = t.active then (0 : BitVec 2) else match t.other with
      | .standby => 1
      | .retiring => 2
      | .loading => 3) := by
  unfold bankStateNum
  split
  · rfl
  · cases t.other <;> rfl

end

/-! ### Parts 1 to 4 (R73, R161, R169) -/

section

variable (d : Detector)

theorem ofContext_bit (g : Context → Bool) : ofContext d (fun c => bit (g c)) = bit ((d.ctx.map g).getD false) := by
  rw [ofContext]
  cases d.ctx <;> rfl

theorem twoWordsNat_ofContext (g : Context → BitVec 32) :
    twoWordsNat (ofContext d fun c => (g c).toNat) = twoWords ((d.ctx.map g).getD 0) := by
  rw [ofContext, twoWordsNat]
  cases d.ctx with
  | none => rfl
  | some c => simp

/-- R83, R170: the causes of a channel's context. -/
theorem ofContext_causes : ofContext d (fun c => causesNum c.causes) =
    bit ((d.ctx.map (fun c => c.causes.detected)).getD false)
      + 2 * bit ((d.ctx.map (fun c => c.causes.link)).getD false)
      + 4 * bit ((d.ctx.map (fun c => c.causes.splice)).getD false)
      + 8 * bit ((d.ctx.map (fun c => c.causes.command)).getD false)
      + 16 * bit ((d.ctx.map (fun c => c.causes.memory)).getD false) := by
  rw [ofContext]
  cases d.ctx <;> rfl

theorem contextNum_eq (c : Option Context) : contextNum c = (c.map fun c => if c.long then 2 else 1).getD 0 := by
  cases c <;> rfl

/-- R169: word 2 of a channel's part. -/
theorem channelWord2_fields {part : Nat} (h : part ≤ 4) : let w := wordOf (channelWord2 part d)
    w.extractLsb' 0 3 = BitVec.ofNat 3 part ∧ w.extractLsb' 3 2 = BitVec.ofNat 2 (contextNum d.ctx) ∧
      w.extractLsb' 5 2 = BitVec.ofNat 2 (historyDepth d.hist) ∧ w.getLsbD 7 = (historyStart d.hist).isSome ∧
      w.getLsbD 8 = (d.ctx.map (fun c => c.logIdx.isSome)).getD false ∧
      w.getLsbD 9 = (d.ctx.map (fun c => c.peak.isSome)).getD false ∧
      w.getLsbD 10 = (d.ctx.map (fun c => c.bank == .b1)).getD false ∧ w.extractLsb' 11 5 = 0 := by
  have context := contextNum_le d.ctx
  have depth := historyDepth_le d.hist
  have start := bit_le_one (historyStart d.hist).isSome
  have index := bit_le_one ((d.ctx.map fun c => c.logIdx.isSome).getD false)
  have peak := bit_le_one ((d.ctx.map fun c => c.peak.isSome).getD false)
  have bank := bit_le_one ((d.ctx.map fun c => c.bank == .b1).getD false)
  simp only [channelWord2, bankNum_eq, ofContext_bit]
  refine ⟨extract_wordOf ?_ ?_, extract_wordOf ?_ ?_, extract_wordOf ?_ ?_, getLsbD_wordOf ?_ ?_, getLsbD_wordOf ?_ ?_,
    getLsbD_wordOf ?_ ?_, getLsbD_wordOf ?_ ?_, extract_wordOf (v := 0) ?_ ?_⟩ <;> omega

end

/-- R73, R169: word 3 of a channel's part: three sets of five flags. -/
theorem channelWord3_fields (s : State) (ch : Channel) :
    let w := wordOf (channelWord3 s ch)
    let p := holdSet s s.tables.active ch .perf
    let m := holdSet s s.tables.active ch .mains
    let cause := fun f : Causes → Bool => ((s.det.get ch).ctx.map (fun c => f c.causes)).getD false
    (w.getLsbD 0 = p.disabled ∧ w.getLsbD 1 = p.guard ∧ w.getLsbD 2 = p.tracker ∧ w.getLsbD 3 = p.bypass ∧
      w.getLsbD 4 = p.stopped) ∧
    (w.getLsbD 5 = m.disabled ∧ w.getLsbD 6 = m.guard ∧ w.getLsbD 7 = m.tracker ∧ w.getLsbD 8 = m.bypass ∧
      w.getLsbD 9 = m.stopped) ∧
    (w.getLsbD 10 = cause (·.detected) ∧ w.getLsbD 11 = cause (·.link) ∧ w.getLsbD 12 = cause (·.splice) ∧
      w.getLsbD 13 = cause (·.command) ∧ w.getLsbD 14 = cause (·.memory)) ∧ w.getLsbD 15 = false := by
  intro w p m cause
  have word : channelWord3 s ch = holdNum p + 32 * holdNum m + 1024 * (bit (cause (·.detected)) +
      2 * bit (cause (·.link)) + 4 * bit (cause (·.splice)) + 8 * bit (cause (·.command)) +
      16 * bit (cause (·.memory))) := congrArg (_ + 1024 * ·) (ofContext_causes _)
  have perf := holdNum_le p
  have mains := holdNum_le m
  have causes := flags_le (cause (·.detected)) (cause (·.link)) (cause (·.splice)) (cause (·.command))
    (cause (·.memory))
  have top : bit false = 0 := rfl
  exact ⟨flags_wordOf (k := 0) (by decide) (show _ = holdNum p by omega),
    flags_wordOf (k := 5) (by decide) (show _ = holdNum m by omega),
    flags_wordOf (k := 10) (by decide) (by omega), getLsbD_wordOf (by decide) (by omega)⟩

/-- R161, R169: a channel's part of the status record. -/
theorem statusPart_channel (ch : Channel) (s : State) :
    statusPart (channelNum ch + 1) s = statusChannel (channelNum ch + 1) ch s := by
  cases ch <;> rfl

theorem exec_queryStatus {s : State} (h : Ready s) (w : Word) :
    exec (.queryStatus [w]) s = .next (cmdQueryStatus [w] (endAssembly s)) :=
  exec_ready (c := .queryStatus) (p := [w]) h (Nat.le_add_left 1 62)

/-- Settles O17: the reply by the two branches of the command, and the words by the fields of each. -/
theorem queryStatusReplies : Obligations.QueryStatusReplies := by
  refine ⟨fun s w h => ?_, fun s bounded => ?_, fun s ch => ?_⟩
  · rw [exec_queryStatus h, cmdQueryStatus]
    by_cases part : w.toNat ≤ 4
    · rw [if_neg (Nat.not_lt.2 part), if_pos part]
      rfl
    · rw [if_pos (Nat.lt_of_not_le part), if_neg part]
      rfl
  · intro two bankState
    refine ⟨wordOf (status0Word2 s), wordOf (status0Word3 s), wordOf (status0Word4 s), ?_, status0Word2_fields s, ?_,
      status0Word4_fields s⟩
    · have words : statusPart 0 s = statusPart0 s := rfl
      rw [words, statusPart0, twoWordsNat_tag, wordOf_miss]
      rfl
    · have fields := status0Word3_fields s bounded.1
      rw [bankState_eq, bankState_eq, oldestOpen_eq] at fields
      exact fields
  · intro a d h two ofCtx ctxBit disabled bypass stopped
    refine ⟨wordOf (channelWord2 (channelNum ch + 1) d), wordOf (channelWord3 s ch), ?_, ?_, ?_⟩
    · rw [statusPart_channel, statusChannel, twoWordsNat_ofContext, twoWordsNat_ofContext]
      rfl
    · have part : channelNum ch + 1 ≤ 4 := by cases ch <;> decide
      obtain ⟨num, context, depth, fields⟩ := channelWord2_fields d part
      refine ⟨num, context.trans ?_, depth.trans ?_, fields⟩
      · rw [contextNum_eq]
      · cases d.hist <;> rfl
    · obtain ⟨⟨p0, p1, p2, p3, p4⟩, ⟨m0, m1, m2, m3, m4⟩, ⟨c0, c1, c2, c3, c4⟩, c5⟩ := channelWord3_fields s ch
      rw [p0, p1, p2, p3, p4, m0, m1, m2, m3, m4, c0, c1, c2, c3, c4, c5]
      exact ⟨rfl, rfl, rfl⟩

end Sys2Proof.NoiseTemplates
end

section
/-! A value upset in its admission (R74, R75, R80, R84): what the detector's work on a channel marks, with sound tables
and no context to close. -/

namespace Sys2Proof.NoiseTemplates

open Sys2Proof Sys2Proof.Machine Sys2Proof.Safety Sys2Proof.SampleLink Sys2Proof.StreamRing Sys2Proof.FilmPosition

/-! ### The seen set (R172) -/

/-- R172: a raising adds to the seen set, its own kind among what it adds. -/
theorem takeRaising_seen (r : EventRecord) (e : Events) :
    ∃ m, (takeRaising r e).seen = e.seen ||| kindBit r.kind ||| m := by
  have placed (q : EventRecord) (v : Events) : (placeRecord q v).seen = v.seen := by
    unfold placeRecord
    split <;> rfl
  have nothing (v : Events) : ∃ m, v.seen = v.seen ||| m := ⟨0, (BitVec.or_zero ..).symm⟩
  unfold takeRaising offerRecord
  dsimp only
  split
  · exact nothing _
  · split
    · exact nothing _
    · rw [placed]
      split
      · exact nothing _
      · refine ⟨kindBit .eventsLost, ?_⟩
        unfold raiseEventsLost
        dsimp only
        split
        · rfl
        · rw [placed]; rfl

/-- R172: what was seen stays seen. -/
theorem seen_of_raisedAfter {a b : Events} (h : RaisedAfter a b) {i : Nat} (hi : a.seen.getLsbD i = true) :
    b.seen.getLsbD i = true := by
  obtain ⟨rs, rfl⟩ := h
  induction rs generalizing a with
  | nil => exact hi
  | cons r rs ih =>
    obtain ⟨m, seen⟩ := takeRaising_seen r a
    exact ih (by simp [seen, hi])

/-! ### What is marked -/

/-- A context without its index in the log (R116). -/
def contextCore (c : Context) : Context := { c with logIdx := none }

/-- A record of the ring whose entries may have gained FLAGGED and MEMORY, and changed in no value. -/
def GainsMarks (r q : FrameRecord) : Prop :=
  q.serial = r.serial ∧ ∀ ch, (q.entries.get ch).cell = (r.entries.get ch).cell ∧
    ((r.entries.get ch).flags.memory = true → (q.entries.get ch).flags.memory = true) ∧
    ((r.entries.get ch).flags.flagged = true → (q.entries.get ch).flags.flagged = true)

/-- An operation of the detector that closes nothing: the tables stand, the newest record can gain marks, events are
raised, and the channels that are `away` keep their history and, but for its index in the log, their context. -/
structure Marking (away : Channel → Prop) (s t : State) : Prop where
  tables : t.tables = s.tables
  work : t.work = s.work
  newest : ∀ r, s.ring.getLast? = some r → ∃ q, t.ring.getLast? = some q ∧ GainsMarks r q
  raised : RaisedAfter s.events t.events
  others : ∀ c, away c → (t.det.get c).hist = (s.det.get c).hist ∧
    (t.det.get c).ctx.map contextCore = (s.det.get c).ctx.map contextCore

/-- Every channel but one. -/
abbrev Beside (ch : Channel) (c : Channel) : Prop := c ≠ ch

/-- Every channel. -/
abbrev Everywhere (_ : Channel) : Prop := True

namespace Marking

variable {away : Channel → Prop} {s t u : State}

theorem gains_refl (r : FrameRecord) : GainsMarks r r := ⟨rfl, fun _ => ⟨rfl, id, id⟩⟩

theorem refl (s : State) : Marking away s s :=
  ⟨rfl, rfl, fun r h => ⟨r, h, gains_refl r⟩, raisedAfter_refl _, fun _ _ => ⟨rfl, rfl⟩⟩

theorem trans (a : Marking away s t) (b : Marking away t u) : Marking away s u where
  tables := b.tables.trans a.tables
  work := b.work.trans a.work
  newest r h := by
    obtain ⟨q, hq, serial, marks⟩ := a.newest r h
    obtain ⟨p, hp, serial', marks'⟩ := b.newest q hq
    exact ⟨p, hp, serial'.trans serial, fun ch =>
      ⟨(marks' ch).1.trans (marks ch).1, (marks' ch).2.1 ∘ (marks ch).2.1, (marks' ch).2.2 ∘ (marks ch).2.2⟩⟩
  raised := raisedAfter_trans a.raised b.raised
  others c h := ⟨(b.others c h).1.trans (a.others c h).1, (b.others c h).2.trans (a.others c h).2⟩

theorem mono {fewer : Channel → Prop} (a : Marking away s t) (h : ∀ c, fewer c → away c) : Marking fewer s t :=
  { a with others := fun c hc => a.others c (h c hc) }

/-- What leaves every channel but one leaves any other. -/
theorem only {c d : Channel} (a : Marking (Beside c) s t) (h : d ≠ c) : Marking (· = d) s t :=
  a.mono fun _ same => same ▸ h

theorem ite {p : Prop} [Decidable p] (a : Marking away s t) (b : Marking away s u) :
    Marking away s (if p then t else u) := by
  split <;> assumption

/-- An operation on other units. -/
theorem of_units (h : (t.tables, t.work, t.ring, t.events, t.det) = (s.tables, s.work, s.ring, s.events, s.det)) :
    Marking away s t := by
  simp only [Prod.mk.injEq] at h
  obtain ⟨tables, work, ring, events, det⟩ := h
  exact ⟨tables, work, fun r hr => ⟨r, by rwa [ring], gains_refl r⟩, by rw [events]; exact raisedAfter_refl _,
    fun _ _ => by rw [det]; exact ⟨rfl, rfl⟩⟩

theorem sound (a : Marking away s t) (h : SoundTables s) : SoundTables t := soundTables_of_tables a.tables h

/-- A channel that is away opens no context. -/
theorem ctx_none (a : Marking away s t) {c : Channel} (hc : away c) (h : (s.det.get c).ctx = none) :
    (t.det.get c).ctx = none := by
  have same := (a.others c hc).2
  rw [h] at same
  exact Option.map_eq_none_iff.1 same

end Marking

section

variable (s : State)

theorem marking_setLog {away : Channel → Prop} (l : DefectLog) : Marking away s (s.setLog l) := .of_units rfl

theorem marking_setCounters {away : Channel → Prop} (x : Counters) : Marking away s (s.setCounters x) := .of_units rfl

theorem marking_raise {away : Channel → Prop} (k : EventKind) (ch : Option Channel) (p : Option (BitVec 32)) :
    Marking away s (raise k ch p s) :=
  ⟨rfl, rfl, fun r h => ⟨r, h, Marking.gains_refl r⟩, raisedAfter_one _ _, fun _ _ => ⟨rfl, rfl⟩⟩

theorem marking_setDetector (ch : Channel) (d : Detector) : Marking (Beside ch) s (setDetector ch d s) :=
  ⟨rfl, rfl, fun r h => ⟨r, h, Marking.gains_refl r⟩, raisedAfter_refl _, fun c h => by
    rw [setDetector_det, Quad.get_set, if_neg h]
    exact ⟨rfl, rfl⟩⟩

/-- The newest record of a ring of which one position is rewritten. -/
theorem ringUpdate_getLast? (p : Serial) (ch : Channel) (f : Entry → Entry) {ring : List FrameRecord} {r : FrameRecord}
    (h : ring.getLast? = some r) : (ringUpdate p ch f ring).getLast? = some (if r.serial = p then
      { r with entries := r.entries.set ch (f (r.entries.get ch)) } else r) := by
  rw [ringUpdate, List.getLast?_map, h]
  rfl

/-- A rewriting that adds marks to an entry. -/
theorem marking_ringUpdate {f : Entry → Entry} (away : Channel → Prop) (p : Serial) (ch : Channel)
    (hf : ∀ e, (f e).cell = e.cell ∧ (e.flags.memory = true → (f e).flags.memory = true) ∧
      (e.flags.flagged = true → (f e).flags.flagged = true)) :
    Marking away s (s.setRing (ringUpdate p ch f s.ring)) := by
  refine ⟨rfl, rfl, fun r h => ⟨_, ringUpdate_getLast? p ch f h, ?_⟩, raisedAfter_refl _, fun _ _ => ⟨rfl, rfl⟩⟩
  split
  · refine ⟨rfl, fun c => ?_⟩
    rw [Quad.get_set]
    split
    · next same => subst same; exact hf _
    · exact ⟨rfl, id, id⟩
  · exact Marking.gains_refl r

theorem marking_flagged (away : Channel → Prop) (p : Serial) (ch : Channel) :
    Marking away s (s.setRing (ringUpdate p ch markFlagged s.ring)) :=
  marking_ringUpdate s away p ch fun _ => ⟨rfl, id, fun _ => rfl⟩

theorem marking_memory (away : Channel → Prop) (p : Serial) (ch : Channel) :
    Marking away s (s.setRing (ringUpdate p ch markMemory s.ring)) :=
  marking_ringUpdate s away p ch fun _ => ⟨rfl, fun _ => rfl, id⟩

/-! ### The log (R115, R116) -/

theorem marking_dropLogIndex (ch : Channel) : Marking Everywhere s (dropLogIndex ch s) :=
  ⟨rfl, rfl, fun r h => ⟨r, h, Marking.gains_refl r⟩, raisedAfter_refl _, fun c _ => by
    rw [dropLogIndex, setDetector_det, Quad.get_set]
    split
    · next same =>
      subst same
      cases (s.det.get c).ctx <;> exact ⟨rfl, rfl⟩
    · exact ⟨rfl, rfl⟩⟩

theorem marking_discardOldest : Marking Everywhere s (discardOldest s) := by
  have counted : Marking Everywhere s (countLogLost (s.setLog
    { s.log with readIdx := s.log.readIdx + 1, unread := 255 })) := .of_units rfl
  have reported := counted.trans (Marking.ite (p := s.log.overrunReported = true) (.refl _)
    ((marking_setLog _ { s.log with readIdx := s.log.readIdx + 1, unread := 255, overrunReported := true }).trans
      (marking_raise _ .logOverrun none (some (satInc s.counters.logLost)))))
  unfold discardOldest
  dsimp only
  split
  · exact reported.trans (.ite (marking_dropLogIndex ..) (.refl _))
  · exact reported

/-- R115 to R117: an append leaves the contexts, but for an index that an overrun takes. -/
theorem marking_appendEntry (e : LogEntry) : Marking Everywhere s (appendEntry e s) := by
  have room : Marking Everywhere s (if s.log.unread = Config.logSlots then discardOldest s else s) :=
    .ite (marking_discardOldest s) (.refl s)
  unfold appendEntry
  refine Marking.trans ?_ (marking_setLog _ _)
  refine Marking.trans ?_ (.ite (marking_raise ..) (.ite (marking_raise ..) (.refl _)))
  exact room.trans (marking_setLog _ _)

end

/-! ### Contexts (R84 to R88) -/

section

variable {s : State} (h : SoundTables s) (ch : Channel) (p : Serial) (causes : Causes) (peak : Option Nat)

include h

/-- R84, R113: with sound tables the opening of a context is the context and, at AT_OPEN, its log entry. -/
theorem openContext_of_sound : openContext ch p causes peak s =
    let c := openedContext s ch p causes peak (activeSetting s (.chan ch .closeRun))
    let u := withContext ch (some c) s
    let v := appendEntry (openEntry ch c) u
    if setting s c.bank (.stream .logMode) = 1 then
      withContext ch ((v.det.get ch).ctx.map (fun c => { c with logIdx := some s.log.writeIdx })) v
    else u := by
  have opened (c : Context) : SoundTables (withContext ch (some c) s) := h
  simp only [openContext, noteActive_of_sound h]
  rw [note_of_sound (opened _)]
  rfl

theorem marking_openContext : Marking (Beside ch) s (openContext ch p causes peak s) := by
  rw [openContext_of_sound h]
  refine .ite ?_ (marking_setDetector ..)
  exact ((marking_setDetector ..).trans ((marking_appendEntry ..).mono fun _ _ => trivial)).trans
    (marking_setDetector ..)

/-- R84: the context that a flagged position opens. -/
theorem ctx_openContext : ∃ c, ((openContext ch p causes peak s).det.get ch).ctx = some c ∧
    c.last = p ∧ c.causes = causes := by
  rw [openContext_of_sound h]
  set c := openedContext s ch p causes peak (activeSetting s (.chan ch .closeRun)) with opened
  have before : ((withContext ch (some c) s).det.get ch).ctx = some c := by
    rw [withContext, setDetector_det, Quad.get_set_same]
  dsimp only
  split
  · have after := ((marking_appendEntry (withContext ch (some c) s) (openEntry ch c)).others ch trivial).2
    rw [before] at after
    obtain ⟨d, hd, same⟩ := Option.map_eq_some_iff.1 (after.trans rfl)
    refine ⟨{ d with logIdx := some s.log.writeIdx }, ?_, ?_, ?_⟩
    · rw [withContext, setDetector_det, Quad.get_set_same, hd]
      rfl
    · exact congrArg (·.last) same
    · exact congrArg (·.causes) same
  · exact ⟨c, before, rfl, rfl⟩

theorem marking_settleFlagged : Marking (Beside ch) s (settleFlagged ch p causes peak s) := by
  unfold settleFlagged
  split
  · exact marking_openContext h ..
  · exact (marking_setDetector ..).trans (.ite (marking_setCounters ..) (.refl _))

/-- R84 to R87: a flagged position ends the channel's context, which has its causes. -/
theorem ctx_settleFlagged (memory : causes.memory = true) :
    ∃ c, ((settleFlagged ch p causes peak s).det.get ch).ctx = some c ∧ c.last = p ∧ c.causes.memory = true := by
  unfold settleFlagged
  split
  · obtain ⟨c, ctx, last, same⟩ := ctx_openContext h ch p causes peak
    exact ⟨c, ctx, last, by rw [same]; exact memory⟩
  · next c _ =>
    refine ⟨extendedContext p causes peak c, ?_, ?_, ?_⟩
    · dsimp only
      split <;> simp [withContext, countLong]
    · unfold extendedContext
      dsimp only
      split
      · next same => exact same.symm
      · rfl
    · unfold extendedContext
      dsimp only
      split <;> simp [joinCauses, memory]

end

/-! ### One position (R74 to R80) -/

section

variable {s : State} (h : SoundTables s) (ch : Channel)

include h

/-- R77 to R79, R88: a centre evaluated with no context open. -/
theorem marking_evaluateCentre (hn : (s.det.get ch).ctx = none) (n : Serial) (vn v1 v2 : Sample) :
    Marking (Beside ch) s (evaluateCentre ch n vn v1 v2 s) := by
  unfold evaluateCentre
  simp only [noteActive_of_sound h]
  refine .ite ?_ (.ite (.refl s) ?_)
  · have flagged : SoundTables (countDetected (s.setRing (ringUpdate (n - 1) ch markFlagged s.ring))) := h
    exact ((marking_flagged s _ _ ch).trans (marking_setCounters _ _)).trans (marking_settleFlagged flagged ..)
  · have closed (absR : Nat) : settleClean ch (n - 1) (updateLevel ch absR s) = updateLevel ch absR s := by
      simp [settleClean, updateLevel, hn]
    rw [closed]
    exact marking_setDetector ..

theorem marking_applyForced (n : Serial) (causes : Causes) : Marking (Beside ch) s (applyForced ch n causes s) := by
  have flagged : SoundTables (s.setRing (ringUpdate n ch markFlagged s.ring)) := h
  exact .ite ((marking_flagged s _ n ch).trans (marking_settleFlagged flagged ..)) (.refl s)

omit h in
theorem marking_failedRead (away : Channel → Prop) (n : Serial) : Marking away s (failedRead ch n s) :=
  (marking_memory s away n ch).trans (marking_raise ..)

/-- R75: the part once the detector has read a watched position. -/
def valueRead (ch : Channel) (r : FrameRecord) (s : State) : State :=
  if cellOk (r.entries.get ch).cell then s else failedRead ch r.serial s

/-- R75: the value that it took. -/
def valueTaken (ch : Channel) (r : FrameRecord) (s : State) : Sample :=
  if cellOk (r.entries.get ch).cell then (r.entries.get ch).cell.val else newestValue (s.det.get ch).hist

/-- R77: the part before a watched position is forced: with a full history its centre has been evaluated. -/
def centreTaken (ch : Channel) (r : FrameRecord) (s : State) : State :=
  match ((valueRead ch r s).det.get ch).hist with
  | .two _ v1 v2 _ => evaluateCentre ch r.serial (valueTaken ch r s) v1 v2 (valueRead ch r s)
  | _ => valueRead ch r s

omit h in
/-- R74: a watched position. -/
theorem watchPosition_eq (r : FrameRecord) : watchPosition ch r s =
    let u := centreTaken ch r s
    let causes := forcedCauses (u.det.get ch) (r.entries.get ch).flags.link (!cellOk (r.entries.get ch).cell)
    let t := applyForced ch r.serial causes u
    useCounts ch
      (setDetector ch { t.det.get ch with hist := pushHistory r.serial (valueTaken ch r s) (t.det.get ch).hist } t) :=
  rfl

omit h in
theorem marking_valueRead (away : Channel → Prop) (r : FrameRecord) : Marking away s (valueRead ch r s) :=
  .ite (.refl s) (marking_failedRead ..)

theorem marking_centreTaken (hn : (s.det.get ch).ctx = none) (r : FrameRecord) :
    Marking (Beside ch) (valueRead ch r s) (centreTaken ch r s) := by
  have read := marking_valueRead (s := s) ch Everywhere r
  unfold centreTaken
  split
  · exact marking_evaluateCentre (read.sound h) ch (read.ctx_none trivial hn) ..
  · exact .refl _

theorem marking_watchPosition (hn : (s.det.get ch).ctx = none) (r : FrameRecord) :
    Marking (Beside ch) s (watchPosition ch r s) := by
  have read := (marking_valueRead ch (Beside ch) r).trans (marking_centreTaken h ch hn r)
  rw [watchPosition_eq]
  exact ((read.trans (marking_applyForced (read.sound h) ..)).trans (marking_setDetector ..)).trans
    (marking_setDetector ..)

/-- R74, R91: the detector's work on a channel with no context open. -/
theorem marking_detectChannel (hn : (s.det.get ch).ctx = none) (r : FrameRecord) :
    Marking (Beside ch) s (detectChannel r ch s) := by
  have noted : noteWatched r ch s = s := by simp [noteWatched, noteActive_of_sound h]
  unfold detectChannel
  rw [noted]
  refine .ite (marking_watchPosition h ch hn r) ?_
  rw [skipPosition, closeContext_none hn]
  exact (marking_setDetector ..).trans (marking_setDetector ..)

/-- R74: the detector's work on the four channels in turn, seen from one of them. -/
theorem marking_eachChannel (hn : ∀ c, (s.det.get c).ctx = none) (r : FrameRecord) :
    ∃ u, Marking (· = ch) s u ∧ Marking (· = ch) (detectChannel r ch u) (eachChannel (detectChannel r) s) := by
  have m0 := marking_detectChannel h .ch0 (hn .ch0) r
  have h1 := m0.sound h
  have m1 := marking_detectChannel h1 .ch1 (m0.ctx_none (by decide) (hn .ch1)) r
  have h2 := m1.sound h1
  have m2 := marking_detectChannel h2 .ch2 (m1.ctx_none (by decide) (m0.ctx_none (by decide) (hn .ch2))) r
  have h3 := m2.sound h2
  have m3 := marking_detectChannel h3 .ch3
    (m2.ctx_none (by decide) (m1.ctx_none (by decide) (m0.ctx_none (by decide) (hn .ch3)))) r
  cases ch with
  | ch0 => exact ⟨_, .refl s, ((m1.only (by decide)).trans (m2.only (by decide))).trans (m3.only (by decide))⟩
  | ch1 => exact ⟨_, m0.only (by decide), (m2.only (by decide)).trans (m3.only (by decide))⟩
  | ch2 => exact ⟨_, (m0.only (by decide)).trans (m1.only (by decide)), m3.only (by decide)⟩
  | ch3 => exact ⟨_, ((m0.only (by decide)).trans (m1.only (by decide))).trans (m2.only (by decide)), .refl _⟩

end

/-! ### A failing value (R75, R80) -/

/-- R75: the newest record is that of position `n`, and its value on a channel fails its check. -/
def FailsNewest (ch : Channel) (n : Serial) (s : State) : Prop :=
  ∃ r, s.ring.getLast? = some r ∧ r.serial = n ∧ cellOk (r.entries.get ch).cell = false

/-- R75: and it was read: its entry has MEMORY, and MEMORY_CORRECTED was raised. -/
def ReadFailed (ch : Channel) (n : Serial) (s : State) : Prop :=
  ∃ r, s.ring.getLast? = some r ∧ r.serial = n ∧ cellOk (r.entries.get ch).cell = false ∧
    (r.entries.get ch).flags.memory = true ∧ s.events.seen.getLsbD 17 = true

/-- R75, R80: and it was forced: its entry has FLAGGED, and it ends the channel's context with the cause MEMORY. -/
def TakenAsForced (ch : Channel) (n : Serial) (v : Sample) (s : State) : Prop :=
  ∃ r c, s.ring.getLast? = some r ∧ r.serial = n ∧ cellOk (r.entries.get ch).cell = false ∧
    (r.entries.get ch).flags.memory = true ∧ (r.entries.get ch).flags.flagged = true ∧
    (s.det.get ch).ctx = some c ∧ c.last = n ∧ c.causes.memory = true ∧ newestValue (s.det.get ch).hist = v ∧
    s.events.seen.getLsbD 17 = true

section

variable {s t : State} {ch : Channel} {n : Serial} {away : Channel → Prop}

theorem Marking.failsNewest (m : Marking away s t) (h : FailsNewest ch n s) : FailsNewest ch n t := by
  obtain ⟨r, newest, serial, fails⟩ := h
  obtain ⟨q, newest', serial', marks⟩ := m.newest r newest
  exact ⟨q, newest', serial'.trans serial, by rw [(marks ch).1]; exact fails⟩

theorem Marking.readFailed (m : Marking away s t) (h : ReadFailed ch n s) : ReadFailed ch n t := by
  obtain ⟨r, newest, serial, fails, memory, seen⟩ := h
  obtain ⟨q, newest', serial', marks⟩ := m.newest r newest
  obtain ⟨cell, keeps, -⟩ := marks ch
  exact ⟨q, newest', serial'.trans serial, by rw [cell]; exact fails, keeps memory, seen_of_raisedAfter m.raised seen⟩

theorem Marking.takenAsForced {v : Sample} (m : Marking away s t) (hc : away ch) (h : TakenAsForced ch n v s) :
    TakenAsForced ch n v t := by
  obtain ⟨r, c, newest, serial, fails, memory, flagged, ctx, last, cause, value, seen⟩ := h
  obtain ⟨q, newest', serial', marks⟩ := m.newest r newest
  obtain ⟨cell, keepsMemory, keepsFlagged⟩ := marks ch
  obtain ⟨hist, core⟩ := m.others ch hc
  rw [ctx] at core
  obtain ⟨d, hd, same⟩ := Option.map_eq_some_iff.1 core
  exact ⟨q, d, newest', serial'.trans serial, by rw [cell]; exact fails, keepsMemory memory, keepsFlagged flagged, hd,
    (congrArg (·.last) same).trans last, (congrArg (·.causes.memory) same).trans cause, by rw [hist]; exact value,
    seen_of_raisedAfter m.raised seen⟩

/-- R75: what the detector's failing read leaves. -/
theorem readFailed_failedRead (h : FailsNewest ch n s) : ReadFailed ch n (failedRead ch n s) := by
  obtain ⟨r, newest, serial, fails⟩ := h
  obtain ⟨m, seen⟩ := takeRaising_seen (eventRecord s .memoryCorrected (some ch) (some (ringSource n))) s.events
  refine ⟨_, ringUpdate_getLast? n ch markMemory newest, ?_⟩
  rw [if_pos serial]
  refine ⟨serial, ?_, ?_, ?_⟩
  · rw [Quad.get_set_same]; exact fails
  · rw [Quad.get_set_same]; rfl
  · have events : (failedRead ch n s).events.seen = s.events.seen ||| kindBit .memoryCorrected ||| m := seen
    have kind : (kindBit .memoryCorrected).getLsbD 17 = true := by decide
    simp [events, kind]

/-- R80, R84: what the forcing of that position leaves. -/
theorem takenAsForced_applyForced (hs : SoundTables s) (h : ReadFailed ch n s) {causes : Causes}
    (memory : causes.memory = true) :
    let t := applyForced ch n causes s
    TakenAsForced ch n (newestValue (t.det.get ch).hist) t := by
  obtain ⟨r, newest, serial, fails, marked, seen⟩ := h
  have forced : applyForced ch n causes s =
      settleFlagged ch n causes none (s.setRing (ringUpdate n ch markFlagged s.ring)) :=
    if_pos (by simp [anyCause, memory])
  have sound : SoundTables (s.setRing (ringUpdate n ch markFlagged s.ring)) := hs
  obtain ⟨c, ctx, last, cause⟩ := ctx_settleFlagged sound ch n causes none memory
  have m := marking_settleFlagged sound ch n causes none
  obtain ⟨q, newest', serial', marks⟩ := m.newest _ (ringUpdate_getLast? n ch markFlagged newest)
  obtain ⟨cell, keepsMemory, keepsFlagged⟩ := marks ch
  rw [if_pos serial] at serial' cell keepsMemory keepsFlagged
  simp only [Quad.get_set_same] at cell keepsMemory keepsFlagged
  rw [forced]
  exact ⟨q, c, newest', serial'.trans serial, by rw [cell]; exact fails, keepsMemory marked, keepsFlagged rfl, ctx,
    last, cause, rfl, seen_of_raisedAfter m.raised seen⟩

/-- R75: the newest value of a history that a position has joined. -/
theorem newestValue_pushHistory (n : Serial) (v : Sample) (h : History) : newestValue (pushHistory n v h) = v := by
  cases h <;> rfl

/-- R75, R80: a watched position whose value fails its check. -/
theorem takenAsForced_watchPosition (hs : SoundTables s) (hn : (s.det.get ch).ctx = none) {r : FrameRecord}
    (fails : cellOk (r.entries.get ch).cell = false) (h : FailsNewest ch r.serial s) :
    TakenAsForced ch r.serial (newestValue (s.det.get ch).hist) (watchPosition ch r s) := by
  have read := (marking_valueRead ch (Beside ch) r).trans (marking_centreTaken hs ch hn r)
  have failed : valueRead ch r s = failedRead ch r.serial s := if_neg (by simp [fails])
  have value : valueTaken ch r s = newestValue (s.det.get ch).hist := if_neg (by simp [fails])
  have marked : ReadFailed ch r.serial (centreTaken ch r s) :=
    (marking_centreTaken hs ch hn r).readFailed (by rw [failed]; exact readFailed_failedRead h)
  have forced := takenAsForced_applyForced (read.sound hs) marked (causes := forcedCauses
    ((centreTaken ch r s).det.get ch) (r.entries.get ch).flags.link (!cellOk (r.entries.get ch).cell))
    (by rw [fails]; rfl)
  obtain ⟨q, c, newest, serial, cell, memory, flagged, ctx, last, cause, -, seen⟩ := forced
  rw [watchPosition_eq, value]
  refine ⟨q, c, newest, serial, cell, memory, flagged, ?_, last, cause, ?_, seen⟩
  · simpa [useCounts] using ctx
  · simp [useCounts, newestValue_pushHistory]

end

end Sys2Proof.NoiseTemplates
end

section
/-! Values that fail their checks (R61, R75, R99, R108): bins, admitted values, anchors and released values. -/

namespace Sys2Proof.NoiseTemplates

open Sys2Proof Sys2Proof.Machine Sys2Proof.Safety Sys2Proof.SampleLink Sys2Proof.StreamRing Sys2Proof.FilmPosition

/-! ### An admission up to the detector (R30, R59 to R61) -/

/-- What the subtractions of a record can change: the templates, the events and the counters. -/
def Subtracts (s t : State) : Prop := ∃ c v n, t = ((s.setCanc c).setEvents v).setCounters n

theorem subtracts_refl (s : State) : Subtracts s s := ⟨s.canc, s.events, s.counters, rfl⟩

theorem subtracts_trans {s t u : State} (a : Subtracts s t) (b : Subtracts t u) : Subtracts s u := by
  obtain ⟨_, _, _, rfl⟩ := a
  obtain ⟨c, v, n, rfl⟩ := b
  exact ⟨c, v, n, rfl⟩

theorem subtracts_readBin (ch : Channel) (e : Engine) (b : BitVec 6) (s : State) : Subtracts s (readBin ch e b s) := by
  unfold readBin
  split
  · exact subtracts_refl s
  · exact ⟨writeBin ch e b 0 s.canc,
      takeRaising (eventRecord s .memoryCorrected (some ch) (some (templateSource e b))) s.events, s.counters, rfl⟩

theorem subtracts_subtractMarks {s : State} (h : SoundTables s) (ch : Channel) (x : Sample) (pb mb : BitVec 6) :
    Subtracts s (subtractMarks ch x pb mb s) := by
  have read (p : Bool) (e : Engine) (b : BitVec 6) (t : State) : Subtracts t (if p then readBin ch e b t else t) := by
    cases p
    · exact subtracts_refl t
    · exact subtracts_readBin ..
  have clip (p : Bool) (t : State) : Subtracts t (if p then countClip t else t) := by
    cases p
    · exact subtracts_refl t
    · exact ⟨t.canc, t.events, _, rfl⟩
  simp only [subtractMarks, note_of_sound h]
  exact subtracts_trans (subtracts_trans (read ..) (read ..)) (clip ..)

theorem subtracts_subtractAll {s : State} (h : SoundTables s) (processed accepted : Bool) (x : Quad Sample) :
    Subtracts s (subtractAll processed accepted x s) := by
  refine eachChannel_keeps (P := Subtracts s) (fun ch t k => ?_) (subtracts_refl s)
  have sound : SoundTables t := by
    obtain ⟨_, _, _, rfl⟩ := k
    exact h
  split
  · exact subtracts_trans k (subtracts_subtractMarks sound ..)
  · exact k

section

variable (stamp : BitVec 16) (samples : Option (Quad Sample)) {s : State} (h : SoundTables s)

include h

/-- R30 steps 1 and 2: with sound tables a record without a marker finds the tables, the detectors and the ring as they
stood. -/
theorem subtracted_none_frame : ∃ x c v n, subtracted .none samples s =
    (((((beforeRecord samples s).setTracker x).setCanc c).setEvents v).setCounters n) := by
  obtain ⟨x, v, taken, -⟩ := recordTaken_none_sound h samples
  have sound : SoundTables (recordTaken .none samples s) := by
    rw [taken, beforeRecord_eq]
    exact h
  obtain ⟨c, v, n, result⟩ := subtracts_subtractAll sound (s.fault.mode == .normal)
    (markerAccepted .none (beforeRecord samples s)) (samples.getD s.link.lastAccepted)
  rw [subtracted, result, taken]
  exact ⟨x, _, _, _, rfl⟩

/-- R30 step 3: what the detector finds. -/
theorem recordPlaced_none : let p := recordPlaced .none stamp samples s
    p.tables = s.tables ∧ p.det = s.det ∧ p.work = ⟨true, s.work.closesPending⟩ ∧
      p.ring = s.ring ++ [admittedRecord .none stamp samples s] := by
  have placed : recordPlaced .none stamp samples s = (placeInRing (admittedRecord .none stamp samples s)
    (subtracted .none samples s)).setUpset (Quad.all false) := rfl
  obtain ⟨x, c, v, n, frame⟩ := subtracted_none_frame samples h
  generalize admittedRecord .none stamp samples s = r at placed ⊢
  rw [placed, frame, beforeRecord_eq]
  simp [placeInRing]

end

/-- R28: an entry is formed with fresh parity. -/
theorem admittedEntry_fresh (s : State) (processed held guarded accepted : Bool) (x : Quad Sample) (ch : Channel) :
    ∃ v, (admittedEntry s processed held guarded accepted x ch).cell = freshCell v := by
  unfold admittedEntry
  split
  · exact ⟨_, rfl⟩
  · exact ⟨0, rfl⟩

/-- R75: an upset value fails its check. -/
theorem admittedRecord_upset (m : Marker) (stamp : BitVec 16) (samples : Option (Quad Sample)) {s : State}
    {ch : Channel} (hu : s.upset.get ch = true) :
    cellOk ((admittedRecord m stamp samples s).entries.get ch).cell = false := by
  obtain ⟨v, fresh⟩ := admittedEntry_fresh (recordTaken m samples s) (s.fault.mode == .normal) samples.isNone
    (s.film.guard != 0) (markerAccepted m (beforeRecord samples s)) (samples.getD s.link.lastAccepted) ch
  have upset : (subtracted m samples s).upset.get ch = true := by rw [upset_subtracted]; exact hu
  simp only [admittedRecord, upsetRecord, admittedEntries, Quad.get_build, upset, fresh]
  simp [upsetCell, cellOk, freshCell]

/-- R74: with sound tables, a channel that is selected and click-enabled is watched. -/
theorem detectChannel_watched {s : State} (h : SoundTables s) {r : FrameRecord} {ch : Channel}
    (processed : r.processed = true) (select : inMask (setting s s.tables.active (.stream .channelMask)) ch = true)
    (enabled : setting s s.tables.active (.chan ch .clickEnable) ≠ 0) :
    detectChannel r ch s = watchPosition ch r s := by
  have noted : noteWatched r ch s = s := by simp [noteWatched, noteActive_of_sound h]
  have watches : isWatched s r ch = true := by simp [isWatched, isSet, selected, processed, select, enabled]
  rw [detectChannel, noted, watches]
  rfl

/-- R75, R80: a value upset in its admission is taken as forced by MEMORY. -/
theorem takenAsForced_admitRecord {s : State} (h : SoundTables s) (normal : s.fault.mode = .normal)
    (idle : s.work = ⟨false, false⟩) (hn : ∀ c, (s.det.get c).ctx = none) {ch : Channel}
    (select : inMask (setting s s.tables.active (.stream .channelMask)) ch = true)
    (enabled : setting s s.tables.active (.chan ch .clickEnable) ≠ 0) (hu : s.upset.get ch = true)
    (stamp : BitVec 16) (samples : Option (Quad Sample)) :
    TakenAsForced ch s.stream.nextSerial (newestValue (s.det.get ch).hist) (admitRecord .none stamp samples s) := by
  obtain ⟨tables, det, work, ring⟩ := recordPlaced_none stamp samples h
  have names := admittedRecord_names .none stamp samples s
  have fails := admittedRecord_upset .none stamp samples hu
  set p := recordPlaced .none stamp samples s with placed
  set r := admittedRecord .none stamp samples s with admitted
  simp only [Prod.mk.injEq, normal] at names
  obtain ⟨serial, -, -, -, -, processed⟩ := names
  have sound : SoundTables p := soundTables_of_tables tables h
  have closed (c : Channel) : (p.det.get c).ctx = none := by rw [det]; exact hn c
  obtain ⟨u, before, after⟩ := marking_eachChannel sound ch closed r
  have quiet : (u.det.get ch).ctx = none := before.ctx_none rfl (closed ch)
  have hist : (u.det.get ch).hist = (s.det.get ch).hist := (before.others ch rfl).1.trans (by rw [det])
  have same : u.tables = s.tables := before.tables.trans tables
  have watch : detectChannel r ch u = watchPosition ch r u :=
    detectChannel_watched (before.sound sound) processed (by rw [setting_of_tables same, same]; exact select)
      (by rw [setting_of_tables same, same]; exact enabled)
  have newest : FailsNewest ch r.serial p := ⟨r, by rw [ring, List.getLast?_concat], rfl, fails⟩
  have forced := takenAsForced_watchPosition (before.sound sound) quiet fails (before.failsNewest newest)
  rw [watch] at after
  have waits : (eachChannel (detectChannel r) p).work.closesPending = false := by
    rw [after.work, (marking_watchPosition (before.sound sound) ch quiet r).work, before.work, work, idle]
  rw [admitRecord_eq, endAdmission_quiet waits, ← serial, ← hist]
  exact after.takenAsForced rfl forced

/-! ### An unprocessed record (R31, R108) -/

section

variable {s : State} {r : FrameRecord} (unprocessed : r.processed = false)

include unprocessed

theorem adaptRecord_unprocessed (mask : Nat) (v : Quad Sample) (hp hm : Quad HoldSet) :
    adaptRecord r mask v hp hm s = s := by
  have stands (active : Bool) (hold : HoldSet) (failed : Bool) (x : Sample) (ch : Channel) (e : Engine) (t : State) :
      adaptEngine r active hold failed x ch e t = t := if_neg (by simp [unprocessed])
  exact eachChannel_id fun ch => by simp only [stands]

theorem hissRecord_unprocessed (mask : Nat) (v : Quad Sample) : hissRecord r mask v s = s := by
  have read (active failed : Bool) (y : Int) (ch : Channel) : noteHiss r active failed y ch s = s :=
    if_neg (by simp [unprocessed])
  have stands : Quad.build (hissNext s r mask v) = s.hiss :=
    Quad.ext_get fun ch => by simp [hissNext, makesHissStep, unprocessed]
  rw [hissRecord, stands, eachChannel_id fun ch => read ..]
  rfl

/-- R31, R65, R123: an unprocessed record whose channel_mask is sound only leaves the ring, reports its failing values
and departs. -/
theorem release_unprocessed {rest : List FrameRecord} (hr : s.ring = r :: rest)
    (sound : fieldOk (storedField s r.bank (.stream .channelMask)) = true) :
    ∃ o, release s = ((releaseMarks r (setting s r.bank (.stream .channelMask)) (emptied rest s)).setOut o).setLastOut
      (released r rest s) := by
  have stored : fieldOk (storedField (emptied rest s) r.bank (.stream .channelMask)) = true := by
    rw [emptied_eq]
    cases hb : r.bank <;> rw [hb] at sound <;> exact sound
  obtain ⟨o, stages⟩ := release_eq hr
  have unheld (mask : Nat) (t : State) : noteHolds r mask t = t := if_neg (by simp [unprocessed])
  rw [hissRecord_unprocessed unprocessed, adapted, note_sound stored, unheld, adaptRecord_unprocessed unprocessed,
    setting_emptied] at stages
  exact ⟨o, stages⟩

end

/-- Settles O8: the read of a bin, the upset value by `takenAsForced_admitRecord`, the anchors by `readAnchor_eq`, and
the last release by `release_unprocessed`. -/
theorem memoryErrorsAreCorrected : Obligations.MemoryErrorsAreCorrected := by
  refine ⟨fun s ch e b => ⟨fun ok => ⟨if_pos ok, readBin_sound ok⟩, fun fails => ⟨?_, writeBin ch e b 0 s.canc, ?_,
    timing_writeBin .., fun ch' e' b' => binCell_writeBin ..⟩⟩, ?_, fun s ch p c => ?_, ?_⟩
  · exact if_neg (by simp [fails])
  · rw [readBin_failing ch e b s fails, templateSource_eq]
    rfl
  · intro s ch stamp x h normal idle hn select enabled hu t
    obtain ⟨r, c, newest, serial, fails, memory, flagged, ctx, last, cause, value, seen⟩ :=
      takenAsForced_admitRecord h normal idle hn select enabled hu stamp (some x)
    obtain ⟨y, kept⟩ := kept_admission .none stamp (some x) s
    have raised := kept.raised
    rw [placed, placeInRing, beforeRecord_eq] at raised
    exact ⟨r, c, newest, serial, fails, memory, flagged, ctx, last, cause, value, kept.upset, raised, seen⟩
  · refine ⟨fun ok => ⟨if_pos ok, if_pos ok⟩, fun fails => ⟨if_neg (by simp [fails]), ?_⟩, rfl, rfl⟩
    rw [readAnchor_eq, Option.any_some, fails]
    rfl
  · intro s r serves draining hr unprocessed sound fails
    obtain ⟨o, result⟩ := release_unprocessed unprocessed hr sound
    refine ⟨_, exec_drainEnd serves draining hr, ?_, fun ch failing => ?_, ?_, ?_⟩
    · rw [result, releaseMarks_eq, emptied_eq, if_pos ⟨draining, rfl⟩, if_pos ⟨draining, rfl⟩]
      rfl
    · obtain ⟨active, failed⟩ := Bool.and_eq_true_iff.1 failing
      rw [result, State.setLastOut_lastOut, released_get, departingValue, if_neg (by simp [active]),
        if_pos (by simpa using failed)]
    · rw [result, releaseMarks_eq, emptied_eq]
      rfl
    · rw [result, releaseMarks_eq, emptied_eq]
      rfl

end Sys2Proof.NoiseTemplates
end

section
/-! The detector's work on one position (R74 to R91), as far as it changes what the closes leave. -/

namespace Sys2Proof.ClickDetection

open Sys2Proof Sys2Proof.Machine Sys2Proof.Safety Sys2Proof.SampleLink Sys2Proof.StreamRing Sys2Proof.FilmPosition

section

variable (s : State)

/-- R84: a context opened, extended or followed leaves E, the countdowns and max_len_eff. -/
theorem inner_withContext (ch : Channel) (c : Option Context) : Inner s (withContext ch c s) :=
  inner_setDetector _ _ _ ⟨rfl, rfl, rfl, rfl⟩

theorem inner_openContext (ch : Channel) (p : Serial) (causes : Causes) (peak : Option Nat) :
    Inner s (openContext ch p causes peak s) := by
  unfold openContext
  dsimp only
  split
  · exact ((((inner_noteActive ..).trans (inner_withContext ..)).trans (inner_note ..)).trans
      (inner_appendEntry ..)).trans (inner_withContext ..)
  · exact ((inner_noteActive ..).trans (inner_withContext ..)).trans (inner_note ..)

/-- R84 to R87: what a flagged position can change. -/
theorem inner_settleFlagged (ch : Channel) (p : Serial) (causes : Causes) (peak : Option Nat) :
    Inner s (settleFlagged ch p causes peak s) := by
  unfold settleFlagged
  split
  · exact inner_openContext ..
  · dsimp only
    split
    · exact (inner_withContext ..).trans (inner_setCounters ..)
    · exact inner_withContext ..

/-- R88, R89: what a clean centre can change. -/
theorem inner_settleClean (ch : Channel) (p : Serial) : Inner s (settleClean ch p s) := by
  unfold settleClean
  split
  · exact .refl s
  · split
    · exact (inner_withContext ..).trans (inner_normalCloseStep ..)
    · exact .refl s

theorem inner_markFlagged (p : Serial) (ch : Channel) : Inner s (s.setRing (ringUpdate p ch markFlagged s.ring)) :=
  inner_setRing _ _ (map_recordKey_ringUpdate p ch markFlagged _ fun _ => ⟨rfl, rfl⟩)

/-- R80: what the forcing of a position can change. -/
theorem inner_applyForced (ch : Channel) (n : Serial) (causes : Causes) : Inner s (applyForced ch n causes s) := by
  unfold applyForced
  split
  · exact (inner_markFlagged ..).trans (inner_settleFlagged ..)
  · exact .refl s

/-- R75: what a detector read that fails can change. -/
theorem inner_failedRead (ch : Channel) (n : Serial) : Inner s (failedRead ch n s) :=
  (inner_setRing _ _ (map_recordKey_ringUpdate n ch markMemory _ fun _ => ⟨rfl, rfl⟩)).trans (inner_raise ..)

/-- R77 to R79: an evaluated centre moves E towards its size, or leaves it, and changes nothing else of what the
closes leave. -/
theorem inner_evaluateCentre (ch : Channel) (n : Serial) (vn v1 v2 : Sample) :
    Inner s (evaluateCentre ch n vn v1 v2 s) ∨ ∃ u, Inner s u ∧
      Inner (updateLevel ch (residual vn v1 v2).natAbs u) (evaluateCentre ch n vn v1 v2 s) := by
  have noted : Inner s (noteActive (.chan ch .tFloor) (noteActive (.chan ch .k) s)) :=
    (inner_noteActive ..).trans (inner_noteActive ..)
  unfold evaluateCentre
  dsimp only
  split
  · exact .inl (((noted.trans (inner_markFlagged ..)).trans (inner_setCounters ..)).trans (inner_settleFlagged ..))
  split
  · exact .inl noted
  · exact .inr ⟨_, noted, inner_settleClean ..⟩

end

end Sys2Proof.ClickDetection
end

section
/-! E, Lb, V and g within their ranges (R79, R125 to R128): the steps that move them, and what the stages leave of
them. -/

namespace Sys2Proof.ClickDetection

open Sys2Proof Sys2Proof.Machine Sys2Proof.Safety Sys2Proof.SampleLink Sys2Proof.StreamRing Sys2Proof.FilmPosition

/-! ### A part of the way (R79, R125, R126, R128) -/

/-- A number moved by a floored part of its difference to another stays between the two. -/
theorem partway_between (x y : Int) {d : Int} (hd : 0 < d) :
    min x y ≤ x + (y - x) / d ∧ x + (y - x) / d ≤ max x y := by
  rcases le_total x y with below | above
  · have low := Int.ediv_nonneg (Int.sub_nonneg.2 below) hd.le
    have high := Int.ediv_le_self d (Int.sub_nonneg.2 below)
    omega
  · have down : (y - x) / d ≤ 0 := Int.ediv_nonpos_of_nonpos_of_neg (by omega) hd
    have least : y - x ≤ (y - x) / d := by
      rw [Int.le_ediv_iff_mul_le hd]
      nlinarith
    omega

/-- R77: the largest residual. -/
theorem residual_le (vn v1 v2 : Sample) : (residual vn v1 v2).natAbs ≤ 33554430 := by
  have hn := BitVec.le_toInt vn; have hn' := BitVec.toInt_lt (x := vn)
  have h1 := BitVec.le_toInt v1; have h1' := BitVec.toInt_lt (x := v1)
  have h2 := BitVec.le_toInt v2; have h2' := BitVec.toInt_lt (x := v2)
  unfold Machine.residual
  omega

/-- R79: E moves towards the size of the residual. -/
theorem nextLevel_between (level size : Nat) : min level size ≤ nextLevel level size ∧
    nextLevel level size ≤ max level size := by
  have moved := partway_between level size (d := 64) (by decide)
  unfold nextLevel
  omega

/-- R125: Lb moves towards the value. -/
theorem nextLow_between (low y : Int) (shift : Nat) : min low y ≤ nextLow low y shift ∧
    nextLow low y shift ≤ max low y := partway_between low y (by positivity)

/-- R126: V moves towards the size of the high band. -/
theorem nextEnv_le (env size shift : Nat) : nextEnv env size shift ≤ max env size := by
  have moved := partway_between env size (d := 2 ^ shift) (by positivity)
  unfold nextEnv
  omega

/-- R128: g moves towards the Gtab entry. -/
theorem nextGain_le (gain entry shift : Nat) : nextGain gain entry shift ≤ max gain entry := nextEnv_le ..

/-- The ranges of Lb, V and g (R125, R126, R128). -/
def HissInRange (h : Hiss) : Prop := (-8388608 ≤ h.low ∧ h.low ≤ 8388607) ∧ h.env ≤ 16777215 ∧ h.gain ≤ 4096

/-- R125 to R128: a hiss step on a 24-bit value, with Gtab entries up to 4,096, stays within the ranges. -/
theorem hissInRange_hissAfter {c : HissSettings} {h : Hiss} (hh : HissInRange h) (y : Sample)
    (gtab : ∀ i : Fin 16, c.gtab[i] ≤ 4096) : HissInRange (hissAfter c h y.toInt) := by
  obtain ⟨low, env, gain⟩ := hh
  have least := BitVec.le_toInt y
  have most := BitVec.toInt_lt (x := y)
  have lowNext := nextLow_between h.low y.toInt c.split
  have high : (highBand c h y.toInt).natAbs ≤ 16777215 := by
    unfold highBand
    omega
  have lowRange : -8388608 ≤ nextLow h.low y.toInt c.split ∧ nextLow h.low y.toInt c.split ≤ 8388607 := by omega
  exact ⟨lowRange, (nextEnv_le ..).trans (max_le env high), (nextGain_le ..).trans (max_le gain (gtab _))⟩

/-! ### What stands -/

/-- E stays within its range on every channel; the hiss states and what the banks hold stand. -/
structure LevelsStand (s t : State) : Prop where
  level : ∀ ch, (s.det.get ch).level ≤ 33554430 → (t.det.get ch).level ≤ 33554430
  hiss : t.hiss = s.hiss
  bank0 : t.tables.bank0 = s.tables.bank0
  bank1 : t.tables.bank1 = s.tables.bank1

theorem levelsKept_iff {s : State} : LevelsKept s ↔ (∀ ch, (s.det.get ch).level ≤ 33554430) ∧
    (∀ ch, HissInRange (s.hiss.get ch)) ∧ InRange s.tables.bank0 ∧ InRange s.tables.bank1 := by
  rw [LevelsKept, tablesInRange_iff]
  exact ⟨fun ⟨level, low, rest, tables⟩ => ⟨level, fun ch => ⟨low ch, rest ch⟩, tables⟩,
    fun ⟨level, hiss, tables⟩ => ⟨level, fun ch => (hiss ch).1, fun ch => (hiss ch).2, tables⟩⟩

namespace LevelsStand

variable {s t u : State}

theorem refl (s : State) : LevelsStand s s := ⟨fun _ h => h, rfl, rfl, rfl⟩

theorem trans (a : LevelsStand s t) (b : LevelsStand t u) : LevelsStand s u :=
  ⟨fun ch h => b.level ch (a.level ch h), b.hiss.trans a.hiss, b.bank0.trans a.bank0, b.bank1.trans a.bank1⟩

theorem ite {p : Prop} [Decidable p] (a : LevelsStand s t) (b : LevelsStand s u) :
    LevelsStand s (if p then t else u) := by
  split <;> assumption

/-- What the reads, the faults and the closes leave. -/
theorem of_inner (h : Inner s t) : LevelsStand s t :=
  ⟨fun ch le => by rw [(h.det ch).1]; exact le, h.hiss, h.bank0, h.bank1⟩

/-- An operation on neither the detectors, the hiss reducer nor the banks. -/
theorem of_units (h : (t.det, t.hiss, t.tables.bank0, t.tables.bank1) =
    (s.det, s.hiss, s.tables.bank0, s.tables.bank1)) : LevelsStand s t := by
  simp only [Prod.mk.injEq] at h
  obtain ⟨det, hiss, bank0, bank1⟩ := h
  exact ⟨fun ch le => by rw [det]; exact le, hiss, bank0, bank1⟩

theorem setDet {d : Quad Detector} (h : ∀ ch, (d.get ch).level = (s.det.get ch).level) :
    LevelsStand s (s.setDet d) := ⟨fun ch le => (h ch).trans_le le, rfl, rfl, rfl⟩

theorem setDetector {ch : Channel} {d : Detector}
    (h : (s.det.get ch).level ≤ 33554430 → d.level ≤ 33554430) : LevelsStand s (setDetector ch d s) := by
  refine ⟨fun c le => ?_, rfl, rfl, rfl⟩
  rw [setDetector_det, Quad.get_set]
  split
  · next same => subst same; exact h le
  · exact le

theorem levelsKept (h : LevelsStand s t) (k : LevelsKept s) : LevelsKept t := by
  obtain ⟨level, hiss, bank0, bank1⟩ := levelsKept_iff.1 k
  rw [levelsKept_iff, h.hiss, h.bank0, h.bank1]
  exact ⟨fun ch => h.level ch (level ch), hiss, bank0, bank1⟩

end LevelsStand

theorem levelsStand_eachChannel {f : Channel → State → State} (h : ∀ c s, LevelsStand s (f c s)) (s : State) :
    LevelsStand s (eachChannel f s) := (((h _ _).trans (h _ _)).trans (h _ _)).trans (h _ _)

section

variable (s : State)

theorem levelsStand_note (b : BankId) (r : FieldRef) : LevelsStand s (note b r s) := .of_inner (inner_note ..)

theorem levelsStand_noteActive (r : FieldRef) : LevelsStand s (noteActive r s) := .of_inner (inner_noteActive ..)

theorem levelsStand_raise (k : EventKind) (ch : Option Channel) (p : Option (BitVec 32)) :
    LevelsStand s (raise k ch p s) := .of_inner (inner_raise ..)

theorem levelsStand_setCanc (c : Canceller) : LevelsStand s (s.setCanc c) := .of_units rfl

theorem levelsStand_setTracker (x : Tracker) : LevelsStand s (s.setTracker x) := .of_units rfl

theorem levelsStand_setCounters (x : Counters) : LevelsStand s (s.setCounters x) := .of_units rfl

theorem levelsStand_setFilm (x : Film) : LevelsStand s (s.setFilm x) := .of_units rfl

theorem levelsStand_setStream (x : Stream) : LevelsStand s (s.setStream x) := .of_units rfl

/-! ### The detector (R74 to R91) -/

/-- R79: E moves towards a size within its range. -/
theorem levelsStand_updateLevel (ch : Channel) {size : Nat} (h : size ≤ 33554430) :
    LevelsStand s (updateLevel ch size s) := by
  refine .setDetector fun le => (nextLevel_between (s.det.get ch).level size).2.trans ?_
  omega

theorem levelsStand_evaluateCentre (ch : Channel) (n : Serial) (vn v1 v2 : Sample) :
    LevelsStand s (evaluateCentre ch n vn v1 v2 s) := by
  rcases inner_evaluateCentre s ch n vn v1 v2 with stands | ⟨u, noted, moved⟩
  · exact .of_inner stands
  · exact ((LevelsStand.of_inner noted).trans (levelsStand_updateLevel u ch (residual_le vn v1 v2))).trans
      (.of_inner moved)

theorem levelsStand_setHistory (ch : Channel) (h : History) :
    LevelsStand s (setDetector ch { s.det.get ch with hist := h } s) := .setDetector fun le => le

theorem levelsStand_useCounts (ch : Channel) : LevelsStand s (useCounts ch s) := .setDetector fun le => le

theorem levelsStand_watchPosition (ch : Channel) (r : FrameRecord) : LevelsStand s (watchPosition ch r s) := by
  have read : LevelsStand s (NoiseTemplates.valueRead ch r s) := .ite (.refl s) (.of_inner (inner_failedRead ..))
  have centre : LevelsStand (NoiseTemplates.valueRead ch r s) (NoiseTemplates.centreTaken ch r s) := by
    unfold NoiseTemplates.centreTaken
    split
    · exact levelsStand_evaluateCentre ..
    · exact .refl _
  rw [NoiseTemplates.watchPosition_eq]
  exact ((read.trans centre).trans (.of_inner (inner_applyForced ..))).trans
    ((levelsStand_setHistory ..).trans (levelsStand_useCounts ..))

theorem levelsStand_detectChannel (r : FrameRecord) (ch : Channel) : LevelsStand s (detectChannel r ch s) := by
  have noted : LevelsStand s (noteWatched r ch s) :=
    .ite ((levelsStand_noteActive s _).trans (.ite (levelsStand_noteActive ..) (.refl _))) (.refl s)
  have skipped (t : State) : LevelsStand t (skipPosition ch r t) :=
    (LevelsStand.of_inner (inner_closeContext ..)).trans
      ((levelsStand_setHistory ..).trans (levelsStand_useCounts ..))
  exact noted.trans (.ite (levelsStand_watchPosition ..) (skipped _))

theorem levelsStand_drainDetector : LevelsStand s (drainDetector s) :=
  ((LevelsStand.of_inner
    (inner_eachChannel (fun ch t => inner_closeContext ch (newestSerial t) t) s)).trans
      (.of_inner (inner_emptyHistories _))).trans (.setDet fun ch => by rw [Quad.get_build])

/-! ### The templates (R59 to R67, R70, R71) -/

theorem levelsStand_readBin (ch : Channel) (e : Engine) (b : BitVec 6) : LevelsStand s (readBin ch e b s) :=
  .ite (.refl s) ((levelsStand_setCanc ..).trans (levelsStand_raise ..))

theorem levelsStand_subtractAll (processed accepted : Bool) (x : Quad Sample) :
    LevelsStand s (subtractAll processed accepted x s) := by
  have marks (t : State) (ch : Channel) (v : Sample) (pb mb : BitVec 6) :
      LevelsStand t (subtractMarks ch v pb mb t) := by
    refine LevelsStand.trans ?_ (.ite (levelsStand_setCounters ..) (.refl _))
    refine LevelsStand.trans ?_ (.ite (levelsStand_readBin ..) (.refl _))
    exact ((levelsStand_note t ..).trans (levelsStand_note ..)).trans (.ite (levelsStand_readBin ..) (.refl _))
  exact levelsStand_eachChannel (fun _ _ => .ite (marks ..) (.refl _)) s

theorem levelsStand_adaptRecord (r : FrameRecord) (mask : Nat) (checked : Quad Sample) (hp hm : Quad HoldSet) :
    LevelsStand s (adaptRecord r mask checked hp hm s) := by
  have bin (t : State) (ch : Channel) (e : Engine) (b : BitVec 6) (v : Sample) :
      LevelsStand t (adaptBin r.bank ch e b v t) := by
    refine LevelsStand.trans ?_ (.ite (.of_inner (inner_takeFault ..)) (.refl _))
    exact ((levelsStand_note t ..).trans (levelsStand_readBin ..)).trans (levelsStand_setCanc ..)
  have engine (active : Bool) (hold : HoldSet) (failed : Bool) (v : Sample) (ch : Channel) (e : Engine) (t : State) :
      LevelsStand t (adaptEngine r active hold failed v ch e t) := .ite (bin ..) (.refl t)
  exact levelsStand_eachChannel (fun _ _ => (engine ..).trans (engine ..)) s

theorem levelsStand_readTemplateBins (p : TemplateParam) : LevelsStand s (readTemplateBins p s) := by
  unfold readTemplateBins
  generalize List.range (readTemplateCount p) = bins
  induction bins generalizing s with
  | nil => exact .refl s
  | cons i bins ih => exact (levelsStand_readBin s ..).trans (ih _)

/-! ### The tracker, Pm and bank exchanges (R44 to R54, R146) -/

theorem levelsStand_recomputeMains : LevelsStand s (recomputeMains s) :=
  (LevelsStand.of_inner (inner_noteMains s)).trans (levelsStand_setCanc ..)

theorem levelsStand_recomputeMaxLen : LevelsStand s (recomputeMaxLen s) :=
  (levelsStand_eachChannel
    (fun _ _ => (levelsStand_noteActive ..).trans (levelsStand_noteActive ..)) s).trans
      (.setDet fun ch => by rw [Quad.get_build])

theorem levelsStand_exchangeBanks : LevelsStand s (exchangeBanks s) := by
  have exchanged : LevelsStand s (s.setTables (exchangedTables s)) := .of_units rfl
  exact ((exchanged.trans (levelsStand_recomputeMains _)).trans (levelsStand_recomputeMaxLen _)).trans
    (levelsStand_raise ..)

theorem levelsStand_exchangeAt (t : Trigger) : LevelsStand s (exchangeAt t s) :=
  .ite (levelsStand_exchangeBanks s) (.refl s)

theorem levelsStand_perfMissStep : LevelsStand s (perfMissStep s) :=
  .ite (((levelsStand_noteActive ..).trans (levelsStand_setTracker ..)).trans
    (.ite (levelsStand_raise ..) (.refl _))) (.refl s)

theorem levelsStand_takePerf : LevelsStand s (takePerf s) := by
  have tracked (x : Tracker) := levelsStand_setTracker s x
  have locked : LevelsStand s (lockedPerf s) :=
    .ite ((tracked _).trans (.ite (.refl _) (levelsStand_recomputeMains _)))
      (.ite (levelsStand_setCounters ..) (.refl s))
  unfold takePerf
  split
  · exact .ite (tracked _) (.ite (((tracked _).trans (levelsStand_raise ..)).trans (levelsStand_recomputeMains _))
      (tracked _))
  · exact locked
  · exact locked
  · exact tracked _

theorem levelsStand_takeRecord (m : Marker) : LevelsStand s (takeRecord m s) :=
  (levelsStand_setTracker s _).trans (.ite (levelsStand_takePerf _) (levelsStand_perfMissStep _))

/-! ### Markers and the stream controller (R20 to R43) -/

theorem levelsStand_deliverMarker (m : Marker) : LevelsStand s (deliverMarker m s) := by
  have frame : LevelsStand s (deliverFrame s) := (levelsStand_exchangeAt ..).trans
    (.ite ((levelsStand_setFilm ..).trans (levelsStand_raise ..)) (levelsStand_setFilm ..))
  have loaded (t : State) (mask len : Nat) : LevelsStand t (loadSpliceCounts mask len t) :=
    .setDet fun ch => by rw [Quad.get_build]; dsimp only; split <;> rfl
  cases m with
  | none => exact .refl s
  | perf => exact .refl s
  | frame => exact frame
  | framePerf => exact frame
  | splice =>
    have guarded : LevelsStand s (deliverSplice s) :=
      ((((((levelsStand_exchangeAt s .nextSplice).trans (levelsStand_noteActive ..)).trans
        (levelsStand_setFilm ..)).trans ((levelsStand_noteActive ..).trans (levelsStand_noteActive ..))).trans
          (loaded ..)).trans (levelsStand_setTracker ..)).trans (levelsStand_raise ..)
    exact guarded
  | reelStart =>
    have cleared : LevelsStand s (deliverReelStart s) :=
      .ite ((levelsStand_noteActive ..).trans (levelsStand_setFilm ..)) (levelsStand_noteActive ..)
    exact cleared
  | reelEnd => exact .refl s

theorem levelsStand_enterDraining : LevelsStand s (enterDraining s) :=
  (LevelsStand.of_units (s := s) (t := enterState .draining s) rfl).trans (levelsStand_drainDetector _)

/-- R30: an admission. -/
theorem levelsStand_admitSlot (m : Marker) (stamp : BitVec 16) (samples : Option (Quad Sample)) :
    LevelsStand s (admitSlot m stamp samples s) := by
  have before : LevelsStand s (beforeRecord samples s) := by
    rw [beforeRecord_eq]
    exact .of_units rfl
  have taken : LevelsStand s (recordTaken m samples s) :=
    (before.trans (levelsStand_takeRecord ..)).trans (levelsStand_noteActive ..)
  have placed : LevelsStand s (recordPlaced m stamp samples s) :=
    (taken.trans (levelsStand_subtractAll ..)).trans (.of_units rfl)
  have running (t : State) : LevelsStand t (checkRunning t) := .ite (.of_units rfl) (.refl t)
  have after (t : State) : LevelsStand t (afterAdmission m t) :=
    .ite ((levelsStand_noteActive t _).trans (.ite (levelsStand_enterDraining _) (running _))) (running t)
  have admitted : LevelsStand s (admitRecord m stamp samples s) := by
    rw [admitRecord_eq]
    exact (placed.trans (levelsStand_eachChannel (fun _ _ => levelsStand_detectChannel ..) _)).trans
      (.of_inner (inner_endAdmission _))
  exact admitted.trans (after _)

/-- R31: the stages of a release before the hiss reducer. -/
theorem levelsStand_adapted (r : FrameRecord) (rest : List FrameRecord) : LevelsStand s (adapted r rest s) := by
  have left : LevelsStand s (emptied rest s) := by
    rw [emptied_eq]
    exact .of_units rfl
  have marked (t : State) (mask : Nat) : LevelsStand t (releaseMarks r mask t) :=
    levelsStand_eachChannel (fun _ _ => .ite (levelsStand_raise ..) (.refl _)) t
  have held (t : State) (mask : Nat) : LevelsStand t (noteHolds r mask t) :=
    .ite (levelsStand_eachChannel
      (fun _ _ => .ite ((levelsStand_note ..).trans (levelsStand_note ..)) (.refl _)) t) (.refl t)
  exact (((left.trans (levelsStand_note ..)).trans (marked ..)).trans (held ..)).trans (levelsStand_adaptRecord ..)

theorem levelsStand_linkLostStep : LevelsStand s (linkLostStep s) := by
  have gone : LevelsStand s (linkGone s) := .of_units rfl
  by_cases hl : s.link.cond = .good ∧ s.link.badCount = 256
  · rw [linkLostStep_eq hl.1 hl.2]
    exact .ite (gone.trans (levelsStand_enterDraining _)) gone
  · rw [linkLostStep_of_not hl]
    exact .refl s

theorem levelsStand_settleFromBank : LevelsStand s (settleFromBank s) :=
  (((levelsStand_noteActive s (.stream .lookahead)).trans (levelsStand_setStream ..)).trans
    (levelsStand_recomputeMains _)).trans (levelsStand_recomputeMaxLen _)

end

end Sys2Proof.ClickDetection
end

section
/-! The hiss steps, the starts, the resets, the commands of the tables, and one step as a whole: the ranges are kept. -/

namespace Sys2Proof.ClickDetection

open Sys2Proof Sys2Proof.Machine Sys2Proof.Safety Sys2Proof.SampleLink Sys2Proof.StreamRing Sys2Proof.FilmPosition
  Sys2Proof.NoiseTemplates

/-- R133, R134: the hiss state of a start and of a reset. -/
theorem hissInRange_start (ch : Channel) : HissInRange (hissAtStart.get ch) := by
  rw [hissAtStart, Quad.get_all]
  unfold HissInRange
  decide

theorem onChapters_levelsKept : OnChapters LevelsKept := by
  intro s t h units
  simp only [chapterUnits, Prod.mk.injEq] at units
  obtain ⟨⟨-, -, -, -, -, det, -⟩, -, hiss, tables, -⟩ := units
  exact LevelsStand.levelsKept (.of_units (by rw [det, hiss, tables])) h

section

variable {s : State} (h : LevelsKept s)

include h

/-! ### Releases (R31, R123) -/

/-- R123, R139: a released record moves the hiss states by settings in range. -/
theorem levelsKept_hissRecord (r : FrameRecord) (mask : Nat) (checked : Quad Sample) :
    LevelsKept (hissRecord r mask checked s) := by
  have noted (ch : Channel) (t : State) :
      Inner t (noteHiss r (inMask mask ch) (failsRelease r ch) (checked.get ch).toInt ch t) := by
    unfold noteHiss
    dsimp only
    split
    · split
      · exact (inner_note ..).trans ((inner_note ..).trans ((inner_note ..).trans ((inner_note ..).trans
          ((inner_note ..).trans (inner_note ..)))))
      · exact inner_note ..
    · exact .refl t
  obtain ⟨level, hiss, bank0, bank1⟩ :=
    levelsKept_iff.1 ((LevelsStand.of_inner (inner_eachChannel noted s)).levelsKept h)
  obtain ⟨-, before, -⟩ := levelsKept_iff.1 h
  refine levelsKept_iff.2 ⟨level, fun ch => ?_, bank0, bank1⟩
  change HissInRange ((Quad.build (hissNext s r mask checked)).get ch)
  rw [Quad.get_build]
  unfold hissNext
  split
  · refine hissInRange_hissAfter (before ch) _ fun i => ?_
    simp only [hissSettings, Fin.getElem_fin, Vector.getElem_ofFn]
    obtain ⟨-, most⟩ := setting_inRange h.2.2.2 r.bank (.gain ch i)
    simpa [fieldSpec, gainSpec] using most
  · exact before ch

theorem levelsKept_release : LevelsKept (release s) := by
  rcases hr : s.ring with _ | ⟨r, rest⟩
  · rw [release, hr]
    exact h
  · obtain ⟨o, stages⟩ := release_eq hr
    rw [stages]
    exact (LevelsStand.of_units rfl).levelsKept
      (levelsKept_hissRecord ((levelsStand_adapted s r rest).levelsKept h) r _ _)

/-! ### Starts (R20, R133) and slots (R16) -/

/-- R133, R134: the hiss states of a start or a reset, with E no higher and the banks as they stood. -/
theorem levelsKept_restart {t : State} (level : ∀ ch, (t.det.get ch).level ≤ (s.det.get ch).level)
    (hiss : t.hiss = hissAtStart) (bank0 : t.tables.bank0 = s.tables.bank0) (bank1 : t.tables.bank1 = s.tables.bank1) :
    LevelsKept t := by
  obtain ⟨before, -, tables⟩ := levelsKept_iff.1 h
  rw [levelsKept_iff, bank0, bank1, hiss]
  exact ⟨fun ch => (level ch).trans (before ch), hissInRange_start, tables⟩

theorem levelsKept_startStreamNow (m : Marker) : LevelsKept (startStreamNow m s) := by
  have outputs := startStreamNow_outputs m s
  simp only [Prod.mk.injEq] at outputs
  obtain ⟨-, hiss, -⟩ := outputs
  obtain ⟨bank0, bank1⟩ := banks_startStreamNow m s
  refine levelsKept_restart h (fun ch => ?_) hiss bank0 bank1
  rw [startStreamNow_det]
  exact (startActed_det m s ch).1.le

theorem levelsKept_startAndAdmit (m : Marker) (stamp : BitVec 16) (x : Quad Sample) :
    LevelsKept (startAndAdmit m stamp x s) :=
  (levelsStand_admitSlot ..).levelsKept (levelsKept_startStreamNow h m)

theorem levelsKept_arriveIdle (m : Marker) (c : SlotClass) : LevelsKept (arriveIdle m c s) := by
  cases c with
  | bad => exact h
  | idle => exact h
  | sample x =>
    have noted : LevelsStand (countSlot s) (noteMarkerStart m (countSlot s)) :=
      .ite (levelsStand_noteActive ..) (.refl _)
    have begun : LevelsKept (noteMarkerStart m (countSlot s)) := noted.levelsKept h
    unfold arriveIdle
    dsimp only
    split
    · exact levelsKept_startAndAdmit begun ..
    · exact begun

theorem levelsKept_streamStep (m : Marker) (c : SlotClass) : LevelsKept (streamStep m c s) := by
  have cleared : LevelsKept (s.setOut { s.out with slot := idleSlot }) := h
  have counted : LevelsKept (countSlot (s.setOut { s.out with slot := idleSlot })) := h
  unfold streamStep
  dsimp only
  split
  · exact levelsKept_arriveIdle cleared m c
  · exact (levelsStand_admitSlot ..).levelsKept counted
  · exact (levelsStand_admitSlot ..).levelsKept (levelsKept_release counted)
  · unfold arriveDraining
    cases c with
    | bad => exact levelsKept_release cleared
    | idle => exact levelsKept_release cleared
    | sample x => exact levelsKept_release (s := countDrained (s.setOut { s.out with slot := idleSlot })) h

theorem levelsKept_armedStartStep (m : Marker) (x : Quad Sample) : LevelsKept (armedStartStep m x s) := by
  unfold armedStartStep
  split
  · exact levelsKept_startAndAdmit (s := countSlot (s.setOut { s.out with slot := idleSlot })) h ..
  · exact h

theorem levelsKept_drainEndStep : LevelsKept (drainEndStep s) := by
  unfold drainEndStep
  split
  · exact levelsKept_release h
  · exact h

/-! ### Banks filled and resets (R94, R134, R153, R163, R185, R187) -/

/-- R142, R143: banks in range in place of the old ones. -/
theorem levelsKept_setTables {t : Tables} (bank0 : InRange t.bank0) (bank1 : InRange t.bank1) :
    LevelsKept (s.setTables t) := by
  obtain ⟨level, hiss, -⟩ := levelsKept_iff.1 h
  exact levelsKept_iff.2 ⟨level, hiss, bank0, bank1⟩

theorem levelsKept_softResetNow : LevelsKept (softResetNow s) := by
  have reset : LevelsKept (softValues s) := levelsKept_restart h (fun ch => by
    change ((Quad.build fun c => softDetector (s.det.get c)).get ch).level ≤ _
    rw [Quad.get_build]
    rfl) rfl rfl rfl
  exact (levelsStand_raise ..).levelsKept ((levelsStand_settleFromBank _).levelsKept reset)

theorem levelsKept_hardValues : LevelsKept (hardValues s) := levelsKept_restart h (fun ch => by
  change ((Quad.build fun c => { softDetector (s.det.get c) with level := 0 }).get ch).level ≤ _
  rw [Quad.get_build]
  exact Nat.zero_le _) rfl rfl rfl

theorem levelsKept_bootDoneStep : LevelsKept (bootDoneStep s) := by
  unfold bootDoneStep
  split
  · have image := inRange_bootImage (slotOf s.store .ch0)
    exact (levelsStand_raise ..).levelsKept ((levelsStand_settleFromBank _).levelsKept
      (levelsKept_setTables (s := s.setStore (bootStore s.store)) h image image))
  · exact h

/-- R185: a recall whose check matches fills the bank that is not active within range. -/
theorem inRange_recalled (x : Slot) :
    let t := if checkMatches x then withTableFault (withBank s.tables (standbyBank s.tables)
      (freshBank (clampImage x.image))) (standbyBank s.tables) false else s.tables
    InRange t.bank0 ∧ InRange t.bank1 := by
  obtain ⟨-, -, bank0, bank1⟩ := levelsKept_iff.1 h
  have image := inRange_clampImage x.image
  dsimp only
  split
  · cases standbyBank s.tables
    · exact ⟨image, bank1⟩
    · exact ⟨bank0, image⟩
  · exact ⟨bank0, bank1⟩

theorem levelsKept_setStore (p : ProfileStore) : LevelsKept (s.setStore p) := h

theorem levelsKept_recallDoneStep : LevelsKept (recallDoneStep s) := by
  unfold recallDoneStep
  split
  · next i _ =>
    obtain ⟨bank0, bank1⟩ := inRange_recalled h (slotOf s.store i)
    refine (levelsStand_raise ..).levelsKept (levelsKept_setStore (levelsKept_setTables h ?_ ?_) _)
    · exact bank0
    · exact bank1
  · exact h

/-! ### The commands (R159) -/

/-- R142, R143: a written record is in range. -/
theorem levelsKept_writeStandby (table : TableCode) (ix : Channel) {vs : List (BitVec 32)}
    (hv : vs.length = fieldCount table) :
    LevelsKept (s.setTables (writeStandby table ix (clampRecord table vs) s.tables)) := by
  obtain ⟨bank0, bank1⟩ := tablesInRange_iff.1 (tablesInRange_writeStandby h.2.2.2 table ix hv)
  exact levelsKept_setTables h bank0 bank1

theorem levelsKept_cmdWriteTable (p : List Word) : LevelsKept (cmdWriteTable p s) := by
  unfold cmdWriteTable
  split
  · exact h
  split
  · exact h
  split
  · exact h
  next length =>
  split
  · exact h
  · refine onChapters_levelsKept (levelsKept_writeStandby h _ _ ?_) rfl
    rw [valuesOf_length]
    omega

end

section

variable (p : List Word) (s : State)

theorem levelsStand_reply (c : CmdCode) (st : Status) (data : List Word) : LevelsStand s (reply c st data s) :=
  .of_units rfl

theorem levelsStand_cmdSwapBanks : LevelsStand s (cmdSwapBanks p s) := by
  have later (t : Trigger) : LevelsStand s (swapLater t s) := .ite (.of_units rfl) (.of_units rfl)
  have now : LevelsStand s (swapNow s) :=
    .ite (.of_units rfl) ((levelsStand_reply ..).trans (levelsStand_exchangeBanks _))
  unfold cmdSwapBanks
  split
  · exact .ite now (.ite (later _) (.ite (later _) (.ite (later _) (.of_units rfl))))
  · exact .of_units rfl

theorem levelsStand_cmdStartStream : LevelsStand s (cmdStartStream p s) := by
  unfold cmdStartStream
  split
  · exact .ite (.of_units rfl) (.ite ((levelsStand_reply ..).trans (levelsStand_noteActive ..))
      (((levelsStand_reply ..).trans (levelsStand_setStream ..)).trans (levelsStand_noteActive ..)))
  · exact .of_units rfl

theorem levelsStand_cmdStopStream : LevelsStand s (cmdStopStream p s) := by
  have stopped : LevelsStand s (stopReel s) := .ite ((levelsStand_reply ..).trans (levelsStand_noteActive ..))
    (((levelsStand_reply ..).trans (levelsStand_noteActive ..)).trans (levelsStand_enterDraining _))
  unfold cmdStopStream
  split
  · split
    · exact .of_units rfl
    · exact stopped
    · exact stopped
    · exact .of_units rfl
  · exact .of_units rfl

/-- R82: FORCE_DEFECT loads command counts alone. -/
theorem levelsStand_cmdForceDefect : LevelsStand s (cmdForceDefect p s) := by
  have loaded (mask count : Nat) (t : State) : LevelsStand t (loadCommandCounts mask count t) :=
    .setDet fun ch => by rw [Quad.get_build]; split <;> rfl
  unfold cmdForceDefect
  split
  · exact .ite (.of_units rfl) (.ite (.of_units rfl) ((levelsStand_reply ..).trans (loaded ..)))
  · exact .of_units rfl

theorem levelsStand_cmdReadTemplate : LevelsStand s (cmdReadTemplate p s) := by
  unfold cmdReadTemplate
  split
  · exact .ite (.of_units rfl) ((levelsStand_reply ..).trans (levelsStand_readTemplateBins ..))
  · exact .of_units rfl

theorem levelsStand_cmdLoadTemplate : LevelsStand s (cmdLoadTemplate p s) := by
  unfold cmdLoadTemplate
  split
  · exact .of_units rfl
  · exact .ite (.of_units rfl) (.ite (.of_units rfl) ((levelsStand_reply ..).trans (levelsStand_setCanc ..)))

/-- R159: the execution of a command other than WRITE_TABLE and SOFT_RESET. -/
theorem levelsStand_runCommand {c : CmdCode} (write : c ≠ .writeTable) (reset : c ≠ .softReset) :
    LevelsStand s (runCommand c p s) := by
  cases c with
  | queryStatus => simp only [runCommand, cmdQueryStatus]; split <;> (try split) <;> exact .of_units rfl
  | readCounters => simp only [runCommand, cmdReadCounters]; split <;> exact .of_units rfl
  | clearCounters => simp only [runCommand, cmdClearCounters]; split <;> exact .of_units rfl
  | writeTable => exact absurd rfl write
  | readTable => simp only [runCommand, cmdReadTable]; split <;> (try split) <;> exact .of_units rfl
  | swapBanks => exact levelsStand_cmdSwapBanks p s
  | cancelSwap => simp only [runCommand, cmdCancelSwap]; split <;> exact .of_units rfl
  | startStream => exact levelsStand_cmdStartStream p s
  | stopStream => exact levelsStand_cmdStopStream p s
  | resume => simp only [runCommand, cmdResume]; split <;> (try split) <;> exact .of_units rfl
  | setFrameTag => simp only [runCommand, cmdSetFrameTag]; split <;> (try split) <;> exact .of_units rfl
  | forceDefect => exact levelsStand_cmdForceDefect p s
  | readLog => simp only [runCommand, cmdReadLog]; split <;> (try split) <;> exact .of_units rfl
  | readTemplate => exact levelsStand_cmdReadTemplate p s
  | loadTemplate => exact levelsStand_cmdLoadTemplate p s
  | setEventMask => simp only [runCommand, cmdSetEventMask]; split <;> exact .of_units rfl
  | readEventSummary => simp only [runCommand, cmdReadEventSummary]; split <;> exact .of_units rfl
  | ackFault => simp only [runCommand, cmdAckFault]; split <;> exact .of_units rfl
  | storeProfile =>
    simp only [runCommand, cmdStoreProfile]
    split
    · exact .ite (.of_units rfl) (.ite (.of_units rfl) (.of_units rfl))
    · exact .of_units rfl
  | recallProfile =>
    simp only [runCommand, cmdRecallProfile, recallTests]
    split
    · exact .ite (.of_units rfl) (.ite (.of_units rfl) (.ite (.of_units rfl) (.ite (.of_units rfl) (.of_units rfl))))
    · exact .of_units rfl
  | softReset => exact absurd rfl reset

end

theorem levelsKept_runCommand {s : State} (h : LevelsKept s) (c : CmdCode) (p : List Word) :
    LevelsKept (runCommand c p s) := by
  by_cases write : c = .writeTable
  · subst write
    exact levelsKept_cmdWriteTable h p
  by_cases reset : c = .softReset
  · subst reset
    simp only [runCommand, cmdSoftReset]
    split
    · exact levelsKept_softResetNow (s := reply .softReset .ok [] s) h
    · exact h
  · exact (levelsStand_runCommand p s write reset).levelsKept h

/-! ### One step -/

theorem chaptersKeep_levelsKept : ChaptersKeep LevelsKept where
  onChapters := onChapters_levelsKept
  marker m s h := (levelsStand_deliverMarker s m).levelsKept h
  slot m c _ h := levelsKept_streamStep h m c
  command c p _ h := levelsKept_runCommand h c p
  linkLost s h := (levelsStand_linkLostStep s).levelsKept h
  armedStart m x _ h := levelsKept_armedStartStep h m x
  perfMiss s h := (levelsStand_perfMissStep s).levelsKept h
  normalClose ch s h := (LevelsStand.of_inner (inner_normalCloseStep ch s)).levelsKept h
  retirementEnd s h := by
    unfold retirementEndStep
    split <;> exact h
  drainEnd _ h := levelsKept_drainEndStep h
  exchange t s h := (levelsStand_exchangeAt s t).levelsKept h
  setStore p _ h := levelsKept_setStore h p
  hardReset _ h := levelsKept_hardValues h
  bootDone _ h := levelsKept_bootDoneStep h
  recallDone _ h := levelsKept_recallDoneStep h

/-- Settles O12: E, Lb, V and g each move a floored part of the way to a number within their range, by
`partway_between`; every other part of the commands' meanings leaves them or sets them to their reset values. -/
theorem stepKeepsLevels : Obligations.StepKeepsLevels := chaptersKeep_levelsKept.stepKeeps

end Sys2Proof.ClickDetection
end

section
/-! The centres, the positions, the contexts and FORCE_DEFECT (R74 to R89, R113): what they make of a state. -/

namespace Sys2Proof.ClickDetection

open Sys2Proof Sys2Proof.Machine Sys2Proof.Safety Sys2Proof.SampleLink Sys2Proof.StreamRing Sys2Proof.FilmPosition
  Sys2Proof.NoiseTemplates

/-! ### Centres (R77 to R79, R88, R89) -/

/-- R80: whether the entry of a position carries FLAGGED. -/
theorem wasForced_eq (s : State) (ch : Channel) (p : Serial) :
    wasForced s ch p = (ringFind s.ring p).any (fun r => (r.entries.get ch).flags.flagged) := by
  unfold wasForced
  cases ringFind s.ring p <;> rfl

/-- R32: a later position, by serial difference. -/
theorem isAfter_iff (p q : Serial) : isAfter p q = true ↔ 0 < (p - q).toNat ∧ (p - q).toNat < 2 ^ 31 :=
  decide_eq_true_iff

/-- R79: the part with E moved and the channel's context as given. -/
def cleanMoved (ch : Channel) (size : Nat) (c : Option Context) (s : State) : State :=
  s.setDet (s.det.set ch { s.det.get ch with level := nextLevel (s.det.get ch).level size, ctx := c })

section

variable {s : State} {ch : Channel} {n : Serial} {vn v1 v2 : Sample}

/-- R77, R78, R80: a centre whose threshold's fields are sound. -/
theorem evaluateCentre_of_sound (tFloor : fieldOk (storedField s s.tables.active (.chan ch .tFloor)) = true)
    (k : fieldOk (storedField s s.tables.active (.chan ch .k)) = true) : evaluateCentre ch n vn v1 v2 s =
      let size := (Machine.residual vn v1 v2).natAbs
      if threshold (activeSetting s (.chan ch .tFloor)) (s.det.get ch).level (activeSetting s (.chan ch .k)) < size
      then settleFlagged ch (n - 1) detectedCause (some size)
        (countDetected (s.setRing (ringUpdate (n - 1) ch markFlagged s.ring)))
      else if wasForced s ch (n - 1) then s
      else settleClean ch (n - 1) (updateLevel ch size s) := by
  have readK : noteActive (.chan ch .k) s = s := note_sound k
  have readFloor : noteActive (.chan ch .tFloor) s = s := note_sound tFloor
  unfold evaluateCentre
  rw [readK, readFloor]

/-- R88: with no context open a clean centre moves E alone. -/
theorem settleClean_none {u : State} (h : (u.det.get ch).ctx = none) (p : Serial) : settleClean ch p u = u := by
  simp [settleClean, h]

/-- R88: a clean centre that does not lie after the end of the context. -/
theorem settleClean_before {u : State} {c : Context} (h : (u.det.get ch).ctx = some c) {p : Serial}
    (before : ¬ isAfter p c.last = true) : settleClean ch p u = u := by
  simp [settleClean, h, before]

/-- R88, R89: a clean centre after the end of the context lengthens the clean run, which closes it where it is full. -/
theorem settleClean_after {u : State} {c : Context} (h : (u.det.get ch).ctx = some c) {p : Serial}
    (after : isAfter p c.last = true) :
    let longer := withContext ch (some { c with cleanRun := c.cleanRun + 1 }) u
    settleClean ch p u = if c.cleanRun + 1 = c.closeRun then closeContext ch (newestSerial u) longer else longer := by
  have run : ((withContext ch (some { c with cleanRun := c.cleanRun + 1 }) u).det.get ch).ctx =
      some { c with cleanRun := c.cleanRun + 1 } := by simp [withContext]
  simp only [settleClean, h, if_pos after, normalCloseStep, run]
  rfl

theorem ctx_cleanMoved (size : Nat) (c : Option Context) : ((cleanMoved ch size c s).det.get ch).ctx = c := by
  simp [cleanMoved]

theorem quad_set_set {α : Type} (q : Quad α) (c : Channel) (v w : α) : (q.set c v).set c w = q.set c w := by
  cases c <;> rfl

theorem withContext_cleanMoved (size : Nat) (c d : Option Context) :
    withContext ch d (cleanMoved ch size c s) = cleanMoved ch size d s := by
  simp [withContext, setDetector, cleanMoved, quad_set_set, State.setDet]

end

/-- Settles O15: a centre is `evaluateCentre_of_sound`, E moves by `nextLevel_between`, and a clean centre reaches the
context by the three cases of `settleClean`. -/
theorem centreIsCompared : Obligations.CentreIsCompared := by
  intro s ch n vn v1 v2 a tFloor k size level t forced step out moved
  have centre : out = _ := evaluateCentre_of_sound (n := n) (vn := vn) (v1 := v1) (v2 := v2) tFloor k
  have sized : (Machine.residual vn v1 v2).natAbs = size := rfl
  have compared : threshold (activeSetting s (.chan ch .tFloor)) (s.det.get ch).level
    (activeSetting s (.chan ch .k)) = t := rfl
  simp only [sized, compared, wasForced_eq] at centre
  have clean (below : size ≤ t) (unforced : forced = false) :
      out = settleClean ch (n - 1) (moved (s.det.get ch).ctx) := by
    rw [centre, if_neg (Nat.not_lt.2 below)]
    exact if_neg (ne_true_of_eq_false unforced)
  refine ⟨residual_le vn v1 v2, nextLevel_between level size, fun above => ?_, fun below was => ?_,
    fun below unforced none => ?_, fun c below unforced some => ?_⟩
  · rw [centre, if_pos above]
    rfl
  · rw [centre, if_neg (Nat.not_lt.2 below)]
    exact if_pos was
  · rw [clean below unforced, none]
    exact settleClean_none (ctx_cleanMoved size Option.none) _
  · have ctx : ((moved (s.det.get ch).ctx).det.get ch).ctx = Option.some c :=
      (ctx_cleanMoved size (s.det.get ch).ctx).trans some
    intro later longer
    have lengthened : withContext ch (Option.some { c with cleanRun := c.cleanRun + 1 }) (moved (s.det.get ch).ctx) =
        longer := withContext_cleanMoved ..
    refine ⟨fun before => ?_, fun after open' => ?_, fun after full => ?_⟩
    · rw [clean below unforced, settleClean_before ctx (fun hc => before ((isAfter_iff ..).1 hc)), some]
    · rw [clean below unforced, settleClean_after ctx ((isAfter_iff ..).2 after), if_neg open', lengthened]
    · rw [clean below unforced, settleClean_after ctx ((isAfter_iff ..).2 after), if_pos full, lengthened]
      rfl

/-! ### Positions (R74 to R76, R80 to R82, R91) -/

theorem isWatched_iff (s : State) (r : FrameRecord) (ch : Channel) : isWatched s r ch = true ↔ r.processed = true ∧
    inMask (setting s s.tables.active (.stream .channelMask)) ch = true ∧
    setting s s.tables.active (.chan ch .clickEnable) ≠ 0 := by
  simp [isWatched, selected, isSet, and_assoc]

/-- R150: sound fields decide whether a position is watched. -/
theorem noteWatched_of_sound {s : State} {ch : Channel}
    (mask : fieldOk (storedField s s.tables.active (.stream .channelMask)) = true)
    (enable : fieldOk (storedField s s.tables.active (.chan ch .clickEnable)) = true) (r : FrameRecord) :
    noteWatched r ch s = s := by
  have readMask : noteActive (.stream .channelMask) s = s := note_sound mask
  have readEnable : noteActive (.chan ch .clickEnable) s = s := note_sound enable
  simp only [noteWatched, readMask, readEnable, ite_self]

/-- R76, R81, R82: a position leaves the history given, and uses one position of each countdown. -/
def positionUsed (ch : Channel) (h : History) (s : State) : State :=
  s.setDet (s.det.set ch { s.det.get ch with
    hist := h, spliceCount := (s.det.get ch).spliceCount - 1, commandCount := (s.det.get ch).commandCount - 1 })

theorem useCounts_setHistory (ch : Channel) (h : History) (s : State) :
    useCounts ch (setDetector ch { s.det.get ch with hist := h } s) = positionUsed ch h s := by
  simp [useCounts, setDetector, positionUsed, quad_set_set, State.setDet]

theorem anyCause_iff (c : Causes) : anyCause c = true ↔ c ≠ ⟨false, false, false, false, false⟩ := by
  obtain ⟨detected, link, splice, command, memory⟩ := c
  simp only [anyCause, Bool.or_eq_true, ne_eq, Causes.mk.injEq, ← Bool.not_eq_true]
  tauto

/-- R77 to R79, R88: an evaluated centre leaves the countdowns. -/
theorem counts_evaluateCentre (s : State) (ch : Channel) (n : Serial) (vn v1 v2 : Sample) :
    ((evaluateCentre ch n vn v1 v2 s).det.get ch).spliceCount = (s.det.get ch).spliceCount ∧
    ((evaluateCentre ch n vn v1 v2 s).det.get ch).commandCount = (s.det.get ch).commandCount := by
  rcases inner_evaluateCentre s ch n vn v1 v2 with stands | ⟨u, noted, moved⟩
  · obtain ⟨-, splice, command, -⟩ := stands.det ch
    exact ⟨splice, command⟩
  · obtain ⟨-, splice, command, -⟩ := noted.det ch
    obtain ⟨-, splice', command', -⟩ := moved.det ch
    simp only [updateLevel, setDetector_det, Quad.get_set_same] at splice' command'
    exact ⟨splice'.trans splice, command'.trans command⟩

section

variable (ch : Channel) (r : FrameRecord) (s : State)

/-- R75: a detector read leaves the detectors. -/
theorem valueRead_det : (valueRead ch r s).det = s.det := by
  unfold valueRead
  split <;> rfl

/-- R77: the centre is evaluated where two values were held before the position. -/
theorem centreTaken_of_two {st : Serial} {v1 v2 : Sample} {aged : Bool}
    (h : (s.det.get ch).hist = .two st v1 v2 aged) : centreTaken ch r s =
      evaluateCentre ch r.serial (valueTaken ch r s) v1 v2 (valueRead ch r s) := by
  unfold centreTaken
  rw [valueRead_det, h]

theorem centreTaken_of_short (h : ∀ st v1 v2 aged, (s.det.get ch).hist ≠ .two st v1 v2 aged) :
    centreTaken ch r s = valueRead ch r s := by
  unfold centreTaken
  rw [valueRead_det]
  split
  · next two => exact (h _ _ _ _ two).elim
  · rfl

theorem counts_centreTaken : ((centreTaken ch r s).det.get ch).spliceCount = (s.det.get ch).spliceCount ∧
    ((centreTaken ch r s).det.get ch).commandCount = (s.det.get ch).commandCount := by
  have read : ((valueRead ch r s).det.get ch) = s.det.get ch := by rw [valueRead_det]
  unfold centreTaken
  split
  · rw [← read]
    exact counts_evaluateCentre ..
  · rw [read]
    exact ⟨rfl, rfl⟩

/-- R74: a watched position, its countdowns being those before its centre. -/
theorem watchPosition_used : watchPosition ch r s =
    let causes := forcedCauses (s.det.get ch) (r.entries.get ch).flags.link (!cellOk (r.entries.get ch).cell)
    let forced := applyForced ch r.serial causes (centreTaken ch r s)
    positionUsed ch (pushHistory r.serial (valueTaken ch r s) (forced.det.get ch).hist) forced := by
  obtain ⟨splice, command⟩ := counts_centreTaken ch r s
  rw [watchPosition_eq]
  simp only [forcedCauses, splice, command]
  exact useCounts_setHistory ..

end

/-- Settles O22: the fields that decide are read without effect, a position that is not watched is `skipPosition`, and
a watched one is `watchPosition_used`. -/
theorem admittedPositionIsTaken : Obligations.AdmittedPositionIsTaken := by
  intro s ch r a mask enable watched n used
  have noted := noteWatched_of_sound mask enable r
  refine ⟨fun unwatched => ?_, fun watches => ?_⟩
  · have skips : isWatched s r ch = false :=
      Bool.eq_false_iff.2 fun watches => unwatched ((isWatched_iff ..).1 watches)
    rw [detectChannel, noted, skips]
    exact useCounts_setHistory ..
  · intro cell failed v read seen causes forced
    have taken : valueTaken ch r s = v := by
      simp only [valueTaken, v, failed, cell]
      cases cellOk (r.entries.get ch).cell <;> cases (s.det.get ch).hist <;> rfl
    have noticed : valueRead ch r s = read := by
      cases ok : cellOk cell with
      | true => exact (if_pos ok).trans (if_neg (by simp [failed, ok])).symm
      | false => exact (if_neg (ne_true_of_eq_false ok)).trans (if_pos (by simp [failed, ok])).symm
    have centre : centreTaken ch r s = seen := by
      cases held : (s.det.get ch).hist with
      | two st v1 v2 aged =>
        rw [centreTaken_of_two ch r s held, taken, noticed]
        simp only [seen, held]
        rfl
      | _ =>
        rw [centreTaken_of_short ch r s (by simp [held]), noticed]
        simp only [seen, held]
    have reached : applyForced ch r.serial causes seen = forced := by
      simp only [applyForced, anyCause_iff, forced, ne_eq, ite_not]
      rfl
    have row : detectChannel r ch s = watchPosition ch r s := by
      rw [detectChannel, noted, (isWatched_iff ..).2 watches]
      rfl
    have position : detectChannel r ch s =
        positionUsed ch (pushHistory n v (forced.det.get ch).hist) forced := by
      rw [row, watchPosition_used, taken, centre, ← reached]
      rfl
    rw [position]
    cases (forced.det.get ch).hist <;> rfl

/-! ### The defect context (R83 to R87, R113) -/

/-- R115: an append with room works beside the detectors. -/
theorem appended_setDet (e : LogEntry) (d : Quad Detector) (s : State) :
    appended e (s.setDet d) = (appended e s).setDet d := by
  have log : (s.setDet d).log = s.log := rfl
  unfold appended
  dsimp only
  rw [log]
  by_cases half : s.log.writeIdx = 128
  · rw [if_pos half, if_pos half]
    rfl
  · rw [if_neg half, if_neg half]
    by_cases wraps : s.log.writeIdx = 0 ∧ s.log.appended = true
    · rw [if_pos wraps, if_pos wraps]
      rfl
    · rw [if_neg wraps, if_neg wraps]
      rfl

theorem appended_det (e : LogEntry) (s : State) : (appended e s).det = s.det :=
  (congrArg State.det (appended_setDet e s.det s) :)

section

variable {s : State} {ch : Channel} {p : Serial} (causes : Causes) (peak : Option Nat)

/-- R84, R113: a position opens a context, close_run and log_mode being sound. -/
theorem settleFlagged_none (none : (s.det.get ch).ctx = none)
    (closeRun : fieldOk (storedField s s.tables.active (.chan ch .closeRun)) = true)
    (logMode : fieldOk (storedField s s.tables.active (.stream .logMode)) = true) :
    settleFlagged ch p causes peak s =
      let c := openedContext s ch p causes peak (activeSetting s (.chan ch .closeRun))
      let u := withContext ch (some c) s
      let v := appendEntry (openEntry ch c) u
      if setting s s.tables.active (.stream .logMode) = 1 then
        withContext ch ((v.det.get ch).ctx.map fun c => { c with logIdx := some s.log.writeIdx }) v
      else u := by
  have readRun : noteActive (.chan ch .closeRun) s = s := note_sound closeRun
  have readMode (d : Option Context) :
      note s.tables.active (.stream .logMode) (withContext ch d s) = withContext ch d s := note_sound logMode
  unfold settleFlagged
  simp only [none, openContext, readRun]
  rw [show (openedContext s ch p causes peak (activeSetting s (.chan ch .closeRun))).bank = s.tables.active from rfl,
    readMode]
  rfl

/-- R115: the index of a context opened in a log with room. -/
theorem withContext_appended (e : LogEntry) (c : Context) (i : Option (BitVec 8)) :
    let v := appended e (withContext ch (some c) s)
    withContext ch ((v.det.get ch).ctx.map fun c => { c with logIdx := i }) v =
      withContext ch (some { c with logIdx := i }) (appended e s) := by
  have placed : appended e (withContext ch (some c) s) = withContext ch (some c) (appended e s) := by
    simp only [withContext, setDetector, appended_setDet, appended_det]
  rw [placed]
  simp [withContext, setDetector, quad_set_set, State.setDet]

/-- R85 to R87: a position reaches an open context. -/
theorem settleFlagged_some {c : Context} (some : (s.det.get ch).ctx = some c) :
    settleFlagged ch p causes peak s =
      let d := extendedContext p causes peak c
      let u := withContext ch (Option.some d) s
      if (d.long && !c.long) = true then countLong u else u := by
  unfold settleFlagged
  rw [some]

end

/-- R85: the causes and the peak that a second reaching adds. -/
theorem extendedContext_last {p : Serial} {c : Context} (h : p = c.last) (causes : Causes) (peak : Option Nat) :
    extendedContext p causes peak c =
      { c with causes := joinCauses c.causes causes, peak := joinPeak c.peak peak } := if_pos h

/-- R86, R87: a position beyond the end becomes the end, and can make the context LONG. -/
theorem extendedContext_beyond {p : Serial} {c : Context} (h : p ≠ c.last) (causes : Causes) (peak : Option Nat) :
    extendedContext p causes peak c = { c with
      causes := joinCauses c.causes causes
      peak := joinPeak c.peak peak
      last := p
      cleanRun := 0
      long := c.long || decide (c.maxLen < (p - c.first).toNat + 1) } := if_neg h

/-- Settles O30: the opening is `settleFlagged_none`, with room its entry is `appendEntry_room`; an open context is
extended by `settleFlagged_some`. -/
theorem flaggedPositionsGather : Obligations.FlaggedPositionsGather := by
  intro s ch p causes peak a d holding
  refine ⟨?_, ?_⟩
  · intro r none found closeRun logMode c
    have opened : openedContext s ch p causes peak (activeSetting s (.chan ch .closeRun)) = c := by
      simp only [openedContext, found]
      rfl
    have result := settleFlagged_none (p := p) causes peak none closeRun logMode
    rw [opened] at result
    refine ⟨fun atClose => ?_, fun atOpen room => ?_⟩
    · rw [result]
      exact if_neg atClose
    · have entered : appendEntry (openEntry ch c) (withContext ch (some c) s) =
          appended (openEntry ch c) (withContext ch (some c) s) :=
        appendEntry_room (s := withContext ch (some c) s) room _
      rw [result]
      dsimp only
      rw [if_pos atOpen, entered, withContext_appended]
      rfl
  · intro c open' joined highest same long
    have reached := settleFlagged_some (p := p) causes peak open'
    have peaks : joinPeak c.peak peak = highest := by
      simp only [highest]
      cases c.peak <;> cases peak <;> rfl
    refine ⟨fun again => ?_, fun beyond short => ?_, fun beyond wasOpen outgrown => ?_⟩
    · rw [reached, extendedContext_last again, peaks]
      exact if_neg (by simp)
    · have stays : (c.long || decide (c.maxLen < (p - c.first).toNat + 1)) = c.long := by
        rcases short with was | fits
        · rw [was]; rfl
        · rw [decide_eq_false fits, Bool.or_false]
      rw [reached, extendedContext_beyond beyond, peaks, stays]
      exact if_neg (by simp)
    · have turns : (c.long || decide (c.maxLen < (p - c.first).toNat + 1)) = true := by
        rw [decide_eq_true outgrown, Bool.or_true]
      rw [reached, extendedContext_beyond beyond, peaks, turns]
      exact if_pos (by simp [wasOpen])

/-! ### FORCE_DEFECT (R82, R168) -/

/-- R82: FORCE_DEFECT where it is executed. -/
theorem exec_forceDefect {s : State} (h : Ready s) (w : Word) : exec (.forceDefect [w]) s = .next
    (if wordBits w 0 4 = 0 ∨ wordBits w 8 7 = 0 ∨ wordBits w 8 7 > 64 then afterReply s 12 [6]
      else if s.stream.state = .idle ∨ s.stream.state = .draining then afterReply s 12 [8]
      else loadCommandCounts (wordBits w 0 4) (wordBits w 8 7) (afterReply s 12 [0])) :=
  exec_ready (c := .forceDefect) (p := [w]) h (Nat.le_add_left 1 62)

/-- R137, R168: the channel set of a FORCE_DEFECT word. -/
theorem inMask_wordBits (w : Word) (ch : Channel) : inMask (wordBits w 0 4) ch = w.getLsbD (channelNum ch) := by
  have small : channelNum ch < 4 := by cases ch <;> decide
  rw [inMask, wordBits, BitVec.testBit_toNat, BitVec.getLsbD_extractLsb', Nat.zero_add]
  simp [small]

/-- Settles O27: the three branches of `exec_forceDefect`. -/
theorem forceDefectLoadsCounts : Obligations.ForceDefectLoadsCounts := by
  intro s w ready count bad rest
  have refuses : (wordBits w 0 4 = 0 ∨ wordBits w 8 7 = 0 ∨ wordBits w 8 7 > 64) ↔ bad := by
    have empty : wordBits w 0 4 = 0 ↔ w.extractLsb' 0 4 = 0 :=
      ⟨fun zero => BitVec.eq_of_toNat_eq zero, fun zero => congrArg BitVec.toNat zero⟩
    rw [empty]
    exact Iff.rfl
  rw [exec_forceDefect ready]
  simp only [refuses]
  refine ⟨fun isBad => by rw [if_pos isBad], fun good rests => ?_, fun good runs => ⟨_, rfl, ?_, fun ch => ?_⟩⟩
  · rw [if_neg good]
    exact congrArg _ (if_pos rests)
  · rw [if_neg good, if_neg runs]
    rfl
  · rw [if_neg good, if_neg runs]
    simp only [loadCommandCounts, State.setDet_det, Quad.get_build, inMask_wordBits]
    rfl

end Sys2Proof.ClickDetection
end

section
/-! Faults and the processing mode (R91, R118, R150, R171, R176 to R178, R180). -/

namespace Sys2Proof.ClickDetection

open Sys2Proof Sys2Proof.Machine Sys2Proof.Safety Sys2Proof.SampleLink Sys2Proof.StreamRing Sys2Proof.FilmPosition
  Sys2Proof.NoiseTemplates

/-! ### A fault at the fault unit (R176, R177) -/

/-- R91, R178: within an admission the closes wait, and else they are made at once. -/
theorem leaveNormal_eq (s : State) :
    leaveNormal s = if s.work.admitting then s.setWork ⟨true, true⟩ else bypassCloses s := by
  unfold leaveNormal
  split
  · next admitting =>
    have work : ({ s.work with closesPending := true } : Work) = ⟨true, true⟩ := by simp only [admitting]
    rw [work]
  · rfl

/-- R176 steps 1 and 2: the part once a first fault has been captured and reported. -/
def faultCaptured (k : FaultKind) (ch : Option Channel) (e : Option Engine) (s : State) : State :=
  withEvent .fault ch (some (faultParam k e)) (s.setFault { s.fault with capture := some (captureOf s k ch e) })

section

variable {k : FaultKind} {s : State} (ch : Option Channel) (e : Option Engine)

/-- R176: a first fault is captured and reported, its policy is read, and BYPASS turns NORMAL to BYPASS. -/
theorem takeFault_first (empty : s.fault.capture = none) : takeFault k ch e s =
    if setting s s.tables.active (policyField k) = 1 ∧ s.fault.mode = .normal
    then leaveNormal (withMode .bypass (notePolicy k (faultCaptured k ch e s)))
    else notePolicy k (faultCaptured k ch e s) := by
  unfold takeFault takeFaultWith
  simp only [empty]
  rfl

theorem notePolicy_sound (sound : fieldOk (storedField s s.tables.active (policyField k)) = true) :
    notePolicy k (faultCaptured k ch e s) = faultCaptured k ch e s := if_pos sound

theorem notePolicy_failing (fails : fieldOk (storedField s s.tables.active (policyField k)) = false) :
    notePolicy k (faultCaptured k ch e s) =
      (faultCaptured k ch e s).setTables (withTableFault s.tables s.tables.active true) :=
  if_neg (ne_true_of_eq_false fails)

/-- R137, R150: a failing policy field reads as REPORT. -/
theorem policy_of_failing (fails : fieldOk (storedField s s.tables.active (policyField k)) = false) :
    setting s s.tables.active (policyField k) ≠ 1 := by
  rw [setting_of_failing fails]
  cases k <;> decide

/-- R177: a fault that finds the capture record full. -/
theorem takeFault_double {c : Capture} (full : s.fault.capture = some c) : takeFault k ch e s =
    let left := if s.fault.mode = .normal then leaveNormal (withMode .latched s) else withMode .latched s
    withEvent .doubleFault ch (some (faultParam k e)) (left.setFault { left.fault with double := true }) := by
  unfold takeFault takeFaultWith
  simp only [full]
  rfl

theorem fault_takeFault_double {c : Capture} (full : s.fault.capture = some c) :
    (takeFault k ch e s).fault.capture = some c ∧ (takeFault k ch e s).fault.mode = .latched := by
  have left : Inner (withMode .latched s)
      (if s.fault.mode = .normal then leaveNormal (withMode .latched s) else withMode .latched s) := by
    split
    · exact inner_leaveNormal _
    · exact .refl _
  rw [takeFault_double ch e full]
  exact ⟨(left.capture (by simp [withMode, full])).trans full, left.latched rfl⟩

end

/-! ### The forced closes (R89, R91, R178) -/

/-- R76, R91: the detectors after the closes of the mode leaving NORMAL. -/
theorem bypassCloses_det (s : State) (ch : Channel) :
    (bypassCloses s).det.get ch = { s.det.get ch with ctx := none, hist := .empty } := by
  have closes := inner_eachChannel (fun c t => inner_closeOne c (newestSerial t) t) s
  obtain ⟨level, splice, command, maxLen⟩ := closes.det ch
  have later (u : State) (c : Channel) : Closing u (closeOne c (newestSerial u) u) := closing_closeOne u ..
  have closed : ((eachChannel (fun c t => closeOne c (newestSerial t) t) s).det.get ch).ctx = none := by
    have here (u : State) : ((closeOne ch (newestSerial u) u).det.get ch).ctx = none := closeOne_ctx ..
    unfold eachChannel
    cases ch
    · exact (later _ .ch3).opensNone _ ((later _ .ch2).opensNone _ ((later _ .ch1).opensNone _ (here s)))
    · exact (later _ .ch3).opensNone _ ((later _ .ch2).opensNone _ (here _))
    · exact (later _ .ch3).opensNone _ (here _)
    · exact here _
  simp only [bypassCloses, emptyHistories, State.setDet_det, Quad.get_build, closed, level, splice, command, maxLen]

theorem appended_tables (e : LogEntry) (s : State) : (appended e s).tables = s.tables := by
  unfold appended
  dsimp only
  split
  · rfl
  · split <;> rfl

/-- R89, R114: the close of a LONG context in AT_CLOSE, with room in the log. -/
theorem closeOne_long {s : State} {ch : Channel} {c : Context} (open' : (s.det.get ch).ctx = some c)
    (long : c.long = true) (unindexed : c.logIdx = none)
    (sound : fieldOk (storedField s c.bank (.stream .logMode)) = true)
    (atClose : setting s c.bank (.stream .logMode) = 0) (room : s.log.unread < 256) (last : Serial) :
    closeOne ch last s = clearContext ch (appended (closedEntry ch .unrepaired c) s) := by
  have recorded : recordClose ch .unrepaired c 0 s = appended (closedEntry ch .unrepaired c) s := by
    rw [recordClose, unindexed]
    exact appendEntry_room room _
  rw [closeOne_of_sound open' sound, atClose]
  simp only [closeOutcome, repairedFor, long, if_true, recorded]

/-- R111, R114, R178: the log action of a LONG context's forced close, where the channel has a context. -/
def longLogged (s : State) (ch : Channel) (u : State) : State :=
  match (s.det.get ch).ctx with
  | none => u
  | some c => appended (closedEntry ch .unrepaired c) u

/-- R118: part of the forced closes are made: but for the detectors the part is `u`, and the contexts of the channels
in `left` are those of `s`. -/
def ClosesMade (s : State) (left : List Channel) (u t : State) : Prop :=
  (∃ d, t = u.setDet d ∧ ∀ ch ∈ left, (d.get ch).ctx = (s.det.get ch).ctx) ∧ u.tables = s.tables ∧
    u.log.unread + left.length ≤ 256

/-- R178: the contexts are LONG, without an entry in the log, and their banks read AT_CLOSE. -/
def LongAtClose (s : State) : Prop := ∀ ch c, (s.det.get ch).ctx = some c → c.long = true ∧ c.logIdx = none ∧
  fieldOk (storedField s c.bank (.stream .logMode)) = true ∧ setting s c.bank (.stream .logMode) = 0

/-- R118: the next close finishes its log action before the ones behind it. -/
theorem closesMade_cons {s : State} (h : LongAtClose s) {ch : Channel} {left : List Channel} (distinct : ch ∉ left)
    {u t : State} (made : ClosesMade s (ch :: left) u t) (last : Serial) :
    ClosesMade s left (longLogged s ch u) (closeOne ch last t) := by
  obtain ⟨⟨d, rfl, stand⟩, tables, room⟩ := made
  rw [List.length_cons] at room
  have same : ((u.setDet d).det.get ch).ctx = (s.det.get ch).ctx := stand ch (List.mem_cons_self ..)
  have others (c : Channel) (hc : c ∈ left) : (d.get c).ctx = (s.det.get c).ctx :=
    stand c (List.mem_cons_of_mem _ hc)
  unfold longLogged
  cases open' : (s.det.get ch).ctx with
  | none =>
    rw [open'] at same
    have nothing : closeOne ch last (u.setDet d) = u.setDet d := by simp only [closeOne, same]
    rw [nothing]
    exact ⟨⟨d, rfl, others⟩, tables, (by omega : u.log.unread + left.length ≤ 256)⟩
  | some c =>
    obtain ⟨long, unindexed, sound, atClose⟩ := h ch c open'
    have stored : storedField (u.setDet d) c.bank (.stream .logMode) = storedField s c.bank (.stream .logMode) := by
      simp only [storedField, State.setDet_tables, tables]
    rw [open'] at same
    have read : setting (u.setDet d) c.bank (.stream .logMode) = 0 :=
      (setting_of_tables (t := u.setDet d) tables ..).trans atClose
    have free : (u.setDet d).log.unread < 256 := (by omega : u.log.unread < 256)
    rw [closeOne_long same long unindexed (stored ▸ sound) read free, appended_setDet]
    refine ⟨⟨_, rfl, fun other hc => ?_⟩, (appended_tables ..).trans tables, ?_⟩
    · have apart : other ≠ ch := fun e => distinct (e ▸ hc)
      rw [State.setDet_det, Quad.get_set, if_neg apart]
      exact others other hc
    · change u.log.unread + 1 + left.length ≤ 256
      omega

/-- R114, R118, R178: the forced closes of LONG contexts in AT_CLOSE append in the order of the channels. -/
theorem bypassCloses_long {s : State} (h : LongAtClose s) (room : s.log.unread + 4 ≤ 256) : bypassCloses s =
    (longLogged s .ch3 (longLogged s .ch2 (longLogged s .ch1 (longLogged s .ch0 s)))).setDet
      (Quad.build fun ch => { s.det.get ch with ctx := none, hist := .empty }) := by
  have start : ClosesMade s [.ch0, .ch1, .ch2, .ch3] s s := ⟨⟨s.det, rfl, fun _ _ => rfl⟩, rfl, room⟩
  have further {ch : Channel} {left : List Channel} (distinct : ch ∉ left) {u t : State}
      (made : ClosesMade s (ch :: left) u t) :
      ClosesMade s left (longLogged s ch u) (closeOne ch (newestSerial t) t) :=
    closesMade_cons h distinct made _
  obtain ⟨⟨d, closed, -⟩, -⟩ :=
    further (by decide) (further (by decide) (further (by decide) (further (by decide) start)))
  have beside (u : State) (d d' : Quad Detector) : (u.setDet d).setDet d' = u.setDet d' := rfl
  have det : (bypassCloses s).det = Quad.build fun ch => { s.det.get ch with ctx := none, hist := .empty } :=
    Quad.ext_get fun ch => by rw [bypassCloses_det, Quad.get_build]
  have result : bypassCloses s = (eachChannel (fun ch t => closeOne ch (newestSerial t) t) s).setDet
      (bypassCloses s).det := rfl
  rw [result, det]
  exact (congrArg (State.setDet · _) closed).trans (beside ..)

/-! ### A mode change within a close (R91, R118) -/

/-- R89: a close leaves the marks of the admission in which it is made. -/
theorem work_closeOne (ch : Channel) (last : Serial) (s : State) : (closeOne ch last s).work = s.work := by
  have read (p : Serial) (c : Option Cell) (t : State) : (readAnchor ch p c t).work = t.work := by
    unfold readAnchor
    split
    · split <;> rfl
    · rfl
  have repaired (c : Context) (sp : Span) : (if c.long then s else repair ch c.first c.last sp s).work = s.work := by
    simp only [repair_eq, apply_ite State.work, State.setRing_work, read, ite_self]
  have policy (k : FaultKind) (t : State) : (notePolicy k t).work = t.work := by
    unfold notePolicy
    split <;> rfl
  have taken (k : FaultKind) (c : Option Channel) (e : Option Engine) (t : State) :
      (takeFaultWith id k c e t).work = t.work := by
    unfold takeFaultWith
    split
    · dsimp only
      split <;> exact policy ..
    · dsimp only
      split <;> rfl
  have noted (b : BankId) (r : FieldRef) (t : State) : (noteInner b r t).work = t.work := by
    unfold noteInner noteWith
    split
    · rfl
    split
    · rfl
    · exact taken ..
  have recorded (o : DefectOutcome) (c : Context) (m : Nat) (t : State) : (recordClose ch o c m t).work = t.work := by
    unfold recordClose completeEntry
    split
    · split <;> rfl
    · split
      · exact (marking_appendEntry ..).work
      · rfl
  unfold closeOne
  split
  · rfl
  · exact (recorded ..).trans ((noted ..).trans (repaired ..))

/-! ### RESUME (R180) -/

/-- R180: RESUME where it is executed. -/
theorem exec_resume {s : State} (h : Ready s) : exec (.resume []) s = .next (cmdResume [] (endAssembly s)) :=
  exec_ready (c := .resume) (p := []) h (Nat.zero_le 63)

/-- R180: RESUME in each mode. -/
theorem resume_cases (s : State) :
    (s.fault.mode = .normal → cmdResume [] (endAssembly s) = afterReply s 10 [0]) ∧
    (s.fault.mode = .latched → cmdResume [] (endAssembly s) = afterReply s 10 [8]) ∧
    (s.fault.mode = .bypass → s.fault.capture ≠ none → cmdResume [] (endAssembly s) = afterReply s 10 [8]) ∧
    (s.fault.mode = .bypass → s.fault.capture = none →
      cmdResume [] (endAssembly s) = (afterReply s 10 [0]).setFault { s.fault with mode := .normal }) := by
  have fault : (endAssembly s).fault = s.fault := rfl
  refine ⟨fun normal => ?_, fun latched => ?_, fun bypass full => ?_, fun bypass empty => ?_⟩
  · simp only [cmdResume, fault, normal]
    rfl
  · simp only [cmdResume, fault, latched]
    rfl
  · obtain ⟨c, full⟩ := Option.ne_none_iff_exists'.1 full
    simp only [cmdResume, fault, bypass, full]
    rfl
  · have returns : cmdResume [] (endAssembly s) = withMode .normal (reply .resume .ok [] (endAssembly s)) := by
      simp only [cmdResume, fault, bypass, empty]
    rw [returns]
    rfl

/-! ### The statement -/

/-- R171, R176: the parameter of a fault, and its policy field. -/
theorem faultParam_eq (k : FaultKind) (e : Option Engine) : faultParam k e =
    BitVec.ofNat 32 ((match k with
      | .tableMemory => 0
      | .templateSaturation => 1) + (match e with
        | none => 0
        | some .perf => 2
        | some .mains => 4)) := by
  rcases e with _ | _ | _ <;> cases k <;> rfl

/-- Settles O25: the fault unit by `takeFault_first` and `takeFault_double`, the forced closes by `bypassCloses_det` and
`bypassCloses_long`, and RESUME by `resume_cases`. -/
theorem faultsAndTheMode : Obligations.FaultsAndTheMode := by
  refine ⟨fun s k ch e => ?_, bypassCloses_det, fun s room long => bypassCloses_long long room, fun s => rfl,
    fun s ch p => ?_, fun s ready => ?_⟩
  · intro a policy param cap first
    have field : policy = policyField k := by cases k <;> rfl
    have parameter : param = some (faultParam k e) := congrArg some (faultParam_eq k e).symm
    have captured : first = faultCaptured k ch e s := by
      simp only [first, parameter]
      rfl
    rw [field, parameter, captured]
    refine ⟨fun empty fails => ?_, fun empty sound reports => ?_, fun empty sound bypass normal => ?_,
      fun c full => ⟨?_, fault_takeFault_double ch e full⟩⟩
    · rw [takeFault_first ch e empty, if_neg fun hb => policy_of_failing fails hb.1, notePolicy_failing ch e fails]
      rfl
    · rw [takeFault_first ch e empty, notePolicy_sound ch e sound]
      exact if_neg fun hb => reports.elim (fun h => h hb.1) (fun h => h hb.2)
    · rw [takeFault_first ch e empty, notePolicy_sound ch e sound, if_pos ⟨bypass, normal⟩, leaveNormal_eq]
      rfl
    · rw [takeFault_double ch e full, leaveNormal_eq]
      simp only [ne_eq, ite_not]
      rfl
  · have work := congrArg Work.admitting (work_closeOne ch p s)
    refine ⟨fun normal left outside => ?_, fun stays => ?_⟩
    · have leaves : closeContext ch p s = leaveNormal (closeOne ch p s) := if_pos ⟨normal, left⟩
      rw [leaves, leaveNormal_eq, work, outside]
      rfl
    · exact if_neg fun hb => stays.elim (fun h => h hb.1) (fun h => hb.2 h)
  · obtain ⟨normal, latched, full, empty⟩ := resume_cases s
    rw [exec_resume ready]
    exact ⟨fun m => congrArg _ (normal m), fun m => congrArg _ (latched m), fun m c => congrArg _ (full m c),
      fun m c => congrArg _ (empty m c)⟩

end Sys2Proof.ClickDetection
end

section
/-! Interpolated values (R101, R102): the rounded offset, and where it lies. -/

namespace Sys2Proof.ClickRepair

open Sys2Proof Sys2Proof.Machine Sys2Proof.StreamRing

/-! ### Rounding to the nearest integer (R101) -/

/-- `x / n` rounded to the nearest integer, with a half rounded toward plus infinity. -/
def nearestQuotient (x n : Int) : Int := (2 * x + n) / (2 * n)

section

variable {n : Int} (hn : 0 < n)

include hn

/-- The rounded quotient is at most half a unit above the exact one. -/
theorem mul_nearestQuotient_le (x : Int) : 2 * n * nearestQuotient x n ≤ 2 * x + n :=
  Int.mul_ediv_self_le (by omega)

/-- The rounded quotient is less than half a unit below the exact one. -/
theorem lt_mul_nearestQuotient_add (x : Int) : 2 * x + n < 2 * n * nearestQuotient x n + 2 * n :=
  Int.lt_mul_ediv_self_add (by omega)

/-- Rounding does not fall below an integer that the quotient reaches. -/
theorem le_nearestQuotient {x lo : Int} (h : lo * n ≤ x) : lo ≤ nearestQuotient x n := by
  rw [nearestQuotient, Int.le_ediv_iff_mul_le (by omega)]
  linarith

/-- Rounding does not rise above an integer that the quotient does not exceed. -/
theorem nearestQuotient_le {x hi : Int} (h : x ≤ hi * n) : nearestQuotient x n ≤ hi := by
  rw [nearestQuotient, ← Int.lt_add_one_iff, Int.ediv_lt_iff_lt_mul (by omega)]
  linarith

end

/-! ### The line between two anchors (R101, R102) -/

/-- R101: the offset from the leading anchor is `d * i / (g + 1)` rounded to the nearest integer. -/
theorem interpolate_sub_anchor (a b : Int) (g i : Nat) :
    interpolate a b g i - a = nearestQuotient ((b - a) * i) (g + 1) := by
  rw [interpolate, nearestQuotient, add_sub_cancel_left, mul_assoc]

/-- R102: the fraction of `d` that position `i` takes lies between none and the whole of it. -/
theorem fraction_between (d : Int) {i n : Int} (h0 : 0 ≤ i) (hi : i ≤ n) :
    min 0 d * n ≤ d * i ∧ d * i ≤ max 0 d * n := by
  rcases le_total 0 d with rise | fall
  · rw [min_eq_left rise, max_eq_right rise, zero_mul]
    exact ⟨mul_nonneg rise h0, mul_le_mul_of_nonneg_left hi rise⟩
  · rw [min_eq_right fall, max_eq_left fall, zero_mul]
    exact ⟨mul_le_mul_of_nonpos_left hi fall, mul_nonpos_of_nonpos_of_nonneg fall h0⟩

/-- R102: the rounded offset lies between 0 and `d`. -/
theorem interpolate_offset_between (a b : Int) {g i : Nat} (hi : i ≤ g) :
    min 0 (b - a) ≤ interpolate a b g i - a ∧ interpolate a b g i - a ≤ max 0 (b - a) := by
  obtain ⟨low, high⟩ := fraction_between (b - a) (i := i) (n := g + 1) (by omega) (by omega)
  rw [interpolate_sub_anchor]
  exact ⟨le_nearestQuotient (by omega) low, nearestQuotient_le (by omega) high⟩

/-- R102: the value lies between its anchors, since its offset lies between 0 and their difference. -/
theorem interpolate_between (a b : Int) {g i : Nat} (hi : i ≤ g) :
    min a b ≤ interpolate a b g i ∧ interpolate a b g i ≤ max a b := by
  obtain ⟨low, high⟩ := interpolate_offset_between a b hi
  omega

/-- Settles O55: the bounds by `interpolate_between` and `interpolate_offset_between`, the rounding by
`mul_nearestQuotient_le` and `lt_mul_nearestQuotient_add`. -/
theorem interpolationNeedsNoSaturation : Obligations.InterpolationNeedsNoSaturation := by
  refine ⟨fun a b g i _ hi => ?_, fun a g i _ _ => interpolate_same a g i, by decide⟩
  have positive : (0 : Int) < g + 1 := by omega
  obtain ⟨low, high⟩ := interpolate_between a b hi
  obtain ⟨offsetLow, offsetHigh⟩ := interpolate_offset_between a b hi
  refine ⟨low, high, offsetLow, offsetHigh, ?_, ?_⟩
  · rw [interpolate_sub_anchor, mul_assoc 2 (b - a)]
    exact mul_nearestQuotient_le positive _
  · rw [interpolate_sub_anchor, mul_assoc 2 (b - a)]
    exact lt_mul_nearestQuotient_add positive _

end Sys2Proof.ClickRepair
end

section
/-! The unread entries of the log, and READ_LOG (R110, R119). -/

namespace Sys2Proof.DefectLogging

open Sys2Proof Sys2Proof.Machine Sys2Proof.Safety

/-! ### The unread entries (R110) -/

section

variable {l : DefectLog} (h : LogSound l)

include h

/-- R110: the unread slots of a sound log all have entries, so that none is passed over. -/
theorem map_some_unreadEntries : (unreadEntries l).map some =
    (List.range l.unread).map fun k => logSlot l (l.readIdx + BitVec.ofNat 8 k) := by
  obtain ⟨-, -, filled⟩ := h
  rw [unreadEntries, List.map_filterMap_some_eq_filter_map_isSome, List.filter_eq_self]
  intro o ho
  obtain ⟨k, hk, rfl⟩ := List.mem_map.1 ho
  exact filled k (List.mem_range.1 hk)

theorem unreadEntries_length : (unreadEntries l).length = l.unread := by
  simpa using congrArg List.length (map_some_unreadEntries h)

/-- R110: the k-th oldest unread entry stands k slots above the read index. -/
theorem unreadEntries_getElem? {k : Nat} (hk : k < l.unread) :
    (unreadEntries l)[k]? = logSlot l (l.readIdx + BitVec.ofNat 8 k) := by
  have inside : k < (unreadEntries l).length := by rwa [unreadEntries_length h]
  have same := congrArg (·[k]?) (map_some_unreadEntries h)
  simpa [hk, inside] using same

end

/-! ### The entries that a reading returns (R119) -/

section

variable (l : DefectLog)

theorem returnable_isPrefix : returnable l <+: unreadEntries l := List.takeWhile_prefix _

theorem returnable_closed {e : LogEntry} (h : e ∈ returnable l) : e.outcome ≠ .stillOpen := by
  simpa using List.mem_takeWhile_imp h

theorem returnable_length_le : (returnable l).length ≤ l.unread := by
  refine (returnable_isPrefix l).length_le.trans ?_
  rw [unreadEntries]
  simpa using List.length_filterMap_le (fun k => logSlot l (l.readIdx + BitVec.ofNat 8 k)) (List.range l.unread)

/-- R119: what stands behind the returnable entries begins with an OPEN one. -/
theorem next_returnable_open {e : LogEntry} (h : (unreadEntries l)[(returnable l).length]? = some e) :
    e.outcome = .stillOpen := by
  have parts : returnable l ++ (unreadEntries l).dropWhile (fun e => e.outcome != .stillOpen) = unreadEntries l :=
    List.takeWhile_append_dropWhile
  rw [← parts, List.getElem?_append_right (Nat.le_refl _), Nat.sub_self, ← List.head?_eq_getElem?] at h
  simpa [h] using List.head?_dropWhile_not (fun e : LogEntry => e.outcome != .stillOpen) (unreadEntries l)

variable (n : Nat)

theorem readLogCount_le : readLogCount l n ≤ n ∧ readLogCount l n ≤ 9 ∧ readLogCount l n ≤ (returnable l).length := by
  unfold readLogCount Config.logReplyMax
  omega

/-- R119: a reading that stops below n and nine has returned all that stands before the first OPEN entry. -/
theorem readLogCount_eq_length (below : readLogCount l n < n) (nine : readLogCount l n < 9) :
    readLogCount l n = (returnable l).length := by
  unfold readLogCount Config.logReplyMax at *
  omega

theorem readLogCount_le_unread : readLogCount l n ≤ l.unread := by
  obtain ⟨-, -, length⟩ := readLogCount_le l n
  exact length.trans (returnable_length_le l)

theorem readLogStopped_iff : readLogStopped l n = true ↔
    readLogCount l n < n ∧ readLogCount l n < 9 ∧ readLogCount l n < l.unread := decide_eq_true_iff

end

/-- R119: the log stays sound when entries are read. -/
theorem logSound_readLogAfter {l : DefectLog} (h : LogSound l) (n : Nat) : LogSound (readLogAfter l n) := by
  have most := readLogCount_le_unread l n
  obtain ⟨bound, index, filled⟩ := h
  refine ⟨(Nat.sub_le ..).trans bound, ?_, fun k hk => ?_⟩
  · have parts : l.unread = readLogCount l n + (l.unread - readLogCount l n) := by omega
    simp only [readLogAfter]
    rw [index, add_assoc, ← BitVec.ofNat_add, ← parts]
  · have later := filled (readLogCount l n + k) (by simp only [readLogAfter] at hk; omega)
    rwa [BitVec.ofNat_add, ← add_assoc] at later

/-- R119, R168: the words of a reading. -/
theorem readLogWords_eq (l : DefectLog) (lost : Count) (n : Nat) : readLogWords l lost n =
    [BitVec.ofNat 16 (readLogCount l n + (if readLogStopped l n then 16 else 0)),
      BitVec.ofNat 16 (l.unread - readLogCount l n), lost.extractLsb' 0 16, lost.extractLsb' 16 16] ++
      ((returnable l).take (readLogCount l n)).flatMap logEntryWords := by
  rw [readLogWords]
  cases readLogStopped l n <;> rfl

theorem exec_readLog {s : State} (h : Ready s) (w : Word) :
    exec (.readLog [w]) s = .next (cmdReadLog [w] (endAssembly s)) :=
  exec_ready (c := .readLog) (p := [w]) h (Nat.le_add_left 1 62)

theorem exec_readLog_bad {s : State} (h : Ready s) {w : Word} (bad : w.toNat = 0 ∨ 16 < w.toNat) :
    exec (.readLog [w]) s = .next (afterReply s 13 [6]) := by
  rw [exec_readLog h, cmdReadLog, if_pos bad]
  rfl

theorem exec_readLog_entries {s : State} (h : Ready s) {w : Word} (least : 1 ≤ w.toNat) (most : w.toNat ≤ 16) :
    exec (.readLog [w]) s = .next ((afterReply s 13 (0 :: readLogWords s.log s.counters.logLost w.toNat)).setLog
      (readLogAfter s.log w.toNat)) := by
  rw [exec_readLog h, cmdReadLog, if_neg (by omega)]
  rfl

/-- Settles O28: the entries are the first of `returnable`, which begin `unreadEntries` and hold no OPEN one. -/
theorem readLogReturnsOldest : Obligations.ReadLogReturnsOldest := by
  intro s w ready sound n entryAt
  refine ⟨exec_readLog_bad ready, fun least most => ?_⟩
  obtain ⟨countN, count9, countLength⟩ := readLogCount_le s.log n
  have countUnread := readLogCount_le_unread s.log n
  set k := readLogCount s.log n with hk
  have stands {i : Nat} (hi : i < s.log.unread) : (unreadEntries s.log)[i]? = entryAt i :=
    unreadEntries_getElem? sound hi
  refine ⟨k, readLogStopped s.log n, (returnable s.log).take k, countN, count9, countUnread,
    List.length_take_of_le countLength, fun i hi => ?_, fun belowN below9 belowUnread => ?_,
    readLogStopped_iff s.log n, ?_⟩
  · have inside : i < (returnable s.log).length := by omega
    refine ⟨(returnable s.log)[i], ?_, ?_, returnable_closed _ (List.getElem_mem inside)⟩
    · rw [← stands (by omega)]
      exact List.prefix_iff_getElem?.1 (returnable_isPrefix s.log) i inside
    · rw [List.getElem?_take_of_lt hi, List.getElem?_eq_getElem inside]
  · have all := readLogCount_eq_length s.log n belowN below9
    obtain ⟨-, -, filled⟩ := sound
    obtain ⟨e, he⟩ := Option.isSome_iff_exists.1 (filled k belowUnread)
    refine ⟨e, he, next_returnable_open s.log ?_⟩
    rw [← all, ← hk, stands belowUnread]
    exact he
  · rw [exec_readLog_entries ready least most, readLogWords_eq]
    rfl

end Sys2Proof.DefectLogging
end

section
/-! Appends, discards and closes (R112, R114 to R117). -/

namespace Sys2Proof.DefectLogging

open Sys2Proof Sys2Proof.Machine Sys2Proof.Safety Sys2Proof.StreamRing

/-! ### A full log (R115, R116) -/

/-- R115, R116: what a discard makes of a full log and its lost count, before the overrun is reported. -/
def oldestCut (s : State) : State := { s with
  log := { s.log with readIdx := s.log.readIdx + 1, unread := 255 }
  counters := { s.counters with logLost := satInc s.counters.logLost } }

/-- R116: the first loss is reported. -/
def overrunTold (s : State) : State :=
  if s.log.overrunReported then oldestCut s
  else withEvent .logOverrun none (some (satInc s.counters.logLost))
    { oldestCut s with log := { (oldestCut s).log with overrunReported := true } }

/-- R116: the discard of the oldest entry takes the index from the context of an OPEN one. -/
theorem discardOldest_eq (s : State) : discardOldest s = (match logSlot s.log s.log.readIdx with
    | none => overrunTold s
    | some old => if old.outcome = .stillOpen then dropLogIndex old.channel (overrunTold s) else overrunTold s) := by
  unfold discardOldest
  cases logSlot s.log s.log.readIdx <;> rfl

/-- R115: an append to a full log follows the discard of its oldest entry. -/
theorem appendEntry_full {s : State} (full : s.log.unread = 256) (e : LogEntry) :
    appendEntry e s = appended e (discardOldest s) := by
  have room : (discardOldest s).log.unread < 256 := by rw [discardOldest_unread]; decide
  rw [← appendEntry_room room]
  have allSlots : s.log.unread = Config.logSlots := full
  have oneFree : ¬ (discardOldest s).log.unread = Config.logSlots := Nat.ne_of_lt room
  unfold appendEntry
  rw [if_pos allSlots, if_neg oneFree]

/-! ### Closes (R112, R114) -/

/-- R114: completion in place. -/
theorem recordClose_indexed {s : State} {c : Context} {i : BitVec 8} {e : LogEntry} (index : c.logIdx = some i)
    (entry : logSlot s.log i = some e) (ch : Channel) (o : DefectOutcome) (mode : Nat) :
    recordClose ch o c mode s = s.setLog (writeSlot i
      { e with outcome := o, causes := c.causes, length := logLength c.first c.last, peak := c.peak } s.log) := by
  simp only [recordClose, index, completeEntry, entry]

/-- R112, R114: a context without an index appends where AT_CLOSE is read, and else writes nothing. -/
theorem recordClose_unindexed {c : Context} (index : c.logIdx = none) (ch : Channel) (o : DefectOutcome) (mode : Nat)
    (s : State) :
    recordClose ch o c mode s = if mode = 0 then appendEntry (closedEntry ch o c) s else s := by
  simp only [recordClose, index]

/-- Settles O44: an append by `appendEntry_room` or, after `discardOldest_eq`, `appendEntry_full`; a close by the index
of its context. -/
theorem logActions : Obligations.LogActions := by
  refine ⟨fun s e => ?_, fun s ch o c mode => ⟨fun i e index entry => ?_, fun index atClose => ?_,
    fun index atOpen => ?_⟩⟩
  · refine ⟨fun room => appendEntry_room room e, fun full => ?_⟩
    rw [appendEntry_full full, discardOldest_eq]
    rfl
  · exact recordClose_indexed index entry ch o mode
  · rw [recordClose_unindexed index, if_pos atClose]
    rfl
  · rw [recordClose_unindexed index, atOpen]
    exact if_neg one_ne_zero

end Sys2Proof.DefectLogging
end

section
/-! A sound log (R110): what the stages, the stream controller and the slots leave of it. -/

namespace Sys2Proof.DefectLogging

open Sys2Proof Sys2Proof.Machine Sys2Proof.Safety Sys2Proof.SampleLink Sys2Proof.StreamRing Sys2Proof.FilmPosition
  Sys2Proof.NoiseTemplates Sys2Proof.ClickDetection

/-! ### What stands -/

/-- A sound log stays sound. -/
structure LogStands (s t : State) : Prop where
  sound : LogSound s.log → LogSound t.log

namespace LogStands

variable {s t u : State}

theorem refl (s : State) : LogStands s s := ⟨id⟩

theorem trans (a : LogStands s t) (b : LogStands t u) : LogStands s u := ⟨b.sound ∘ a.sound⟩

theorem ite {p : Prop} [Decidable p] (a : LogStands s t) (b : LogStands s u) :
    LogStands s (if p then t else u) := by
  split <;> assumption

/-- What the reads, the faults and the closes leave. -/
theorem of_inner (h : Inner s t) : LogStands s t := ⟨h.log⟩

/-- An operation on other units. -/
theorem of_log (h : t.log = s.log) : LogStands s t := ⟨fun k => by rwa [h]⟩

end LogStands

theorem logStands_eachChannel {f : Channel → State → State} (h : ∀ c s, LogStands s (f c s)) (s : State) :
    LogStands s (eachChannel f s) := (((h _ _).trans (h _ _)).trans (h _ _)).trans (h _ _)

section

variable (s : State)

theorem logStands_note (b : BankId) (r : FieldRef) : LogStands s (note b r s) := .of_inner (inner_note ..)

theorem logStands_noteActive (r : FieldRef) : LogStands s (noteActive r s) := .of_inner (inner_noteActive ..)

theorem logStands_raise (k : EventKind) (ch : Option Channel) (p : Option (BitVec 32)) : LogStands s (raise k ch p s) :=
  .of_log rfl

theorem logStands_setCanc (x : Canceller) : LogStands s (s.setCanc x) := .of_log rfl

theorem logStands_setTracker (x : Tracker) : LogStands s (s.setTracker x) := .of_log rfl

theorem logStands_setFilm (x : Film) : LogStands s (s.setFilm x) := .of_log rfl

theorem logStands_setStream (x : Stream) : LogStands s (s.setStream x) := .of_log rfl

theorem logStands_setCounters (x : Counters) : LogStands s (s.setCounters x) := .of_log rfl

theorem logStands_setDet (x : Quad Detector) : LogStands s (s.setDet x) := .of_log rfl

theorem logStands_setDetector (ch : Channel) (d : Detector) : LogStands s (setDetector ch d s) := .of_log rfl

/-! ### The templates (R59 to R67, R70, R71) -/

theorem logStands_readBin (ch : Channel) (e : Engine) (b : BitVec 6) : LogStands s (readBin ch e b s) :=
  .ite (.refl s) (.of_log rfl)

theorem logStands_subtractAll (processed accepted : Bool) (x : Quad Sample) :
    LogStands s (subtractAll processed accepted x s) := by
  have marks (t : State) (ch : Channel) (v : Sample) (pb mb : BitVec 6) :
      LogStands t (subtractMarks ch v pb mb t) := by
    refine LogStands.trans ?_ (.ite (logStands_setCounters ..) (.refl _))
    refine LogStands.trans ?_ (.ite (logStands_readBin ..) (.refl _))
    exact ((logStands_note t ..).trans (logStands_note ..)).trans (.ite (logStands_readBin ..) (.refl _))
  exact logStands_eachChannel (fun _ _ => .ite (marks ..) (.refl _)) s

/-- R66: a clamped bin raises a fault, whose closes reach the log. -/
theorem logStands_adaptBin (bank : BankId) (ch : Channel) (e : Engine) (b : BitVec 6) (v : Sample) :
    LogStands s (adaptBin bank ch e b v s) := by
  unfold adaptBin
  refine LogStands.trans ?_ (.ite (.of_inner (inner_takeFault ..)) (.refl _))
  exact ((logStands_note s ..).trans (logStands_readBin ..)).trans (logStands_setCanc ..)

theorem logStands_adaptRecord (r : FrameRecord) (mask : Nat) (checked : Quad Sample) (hp hm : Quad HoldSet) :
    LogStands s (adaptRecord r mask checked hp hm s) := by
  have engine (active : Bool) (hold : HoldSet) (failed : Bool) (v : Sample) (ch : Channel) (e : Engine) (t : State) :
      LogStands t (adaptEngine r active hold failed v ch e t) := .ite (logStands_adaptBin ..) (.refl t)
  exact logStands_eachChannel (fun _ _ => (engine ..).trans (engine ..)) s

theorem logStands_readTemplateBins (p : TemplateParam) : LogStands s (readTemplateBins p s) := by
  unfold readTemplateBins
  generalize List.range (readTemplateCount p) = bins
  induction bins generalizing s with
  | nil => exact .refl s
  | cons i bins ih => exact (logStands_readBin s ..).trans (ih _)

/-! ### The tracker, Pm and bank exchanges (R44 to R54, R146) -/

theorem logStands_recomputeMains : LogStands s (recomputeMains s) :=
  (LogStands.of_inner (inner_noteMains s)).trans (logStands_setCanc ..)

theorem logStands_recomputeMaxLen : LogStands s (recomputeMaxLen s) :=
  (logStands_eachChannel (fun _ _ => (logStands_noteActive ..).trans (logStands_noteActive ..)) s).trans
    (logStands_setDet ..)

theorem logStands_exchangeBanks : LogStands s (exchangeBanks s) := by
  have exchanged : LogStands s (s.setTables (exchangedTables s)) := .of_log rfl
  exact ((exchanged.trans (logStands_recomputeMains _)).trans (logStands_recomputeMaxLen _)).trans
    (logStands_raise ..)

theorem logStands_exchangeAt (t : Trigger) : LogStands s (exchangeAt t s) :=
  .ite (logStands_exchangeBanks s) (.refl s)

theorem logStands_perfMissStep : LogStands s (perfMissStep s) :=
  .ite (((logStands_noteActive ..).trans (logStands_setTracker ..)).trans
    (.ite (logStands_raise ..) (.refl _))) (.refl s)

theorem logStands_takePerf : LogStands s (takePerf s) := by
  have tracked (x : Tracker) := logStands_setTracker s x
  have locked : LogStands s (lockedPerf s) :=
    .ite ((tracked _).trans (.ite (.refl _) (logStands_recomputeMains _)))
      (.ite (logStands_setCounters ..) (.refl s))
  unfold takePerf
  split
  · exact .ite (tracked _) (.ite (((tracked _).trans (logStands_raise ..)).trans (logStands_recomputeMains _))
      (tracked _))
  · exact locked
  · exact locked
  · exact tracked _

theorem logStands_takeRecord (m : Marker) : LogStands s (takeRecord m s) :=
  (logStands_setTracker s _).trans (.ite (logStands_takePerf _) (logStands_perfMissStep _))

/-! ### Markers (R36, R38, R41) -/

theorem logStands_deliverFrame : LogStands s (deliverFrame s) :=
  (logStands_exchangeAt ..).trans
    (.ite ((logStands_setFilm ..).trans (logStands_raise ..)) (logStands_setFilm ..))

theorem logStands_deliverSplice : LogStands s (deliverSplice s) := by
  have loaded (t : State) (mask len : Nat) : LogStands t (loadSpliceCounts mask len t) := logStands_setDet ..
  exact ((((((logStands_exchangeAt s .nextSplice).trans (logStands_noteActive ..)).trans (logStands_setFilm ..)).trans
    ((logStands_noteActive ..).trans (logStands_noteActive ..))).trans (loaded ..)).trans
      (logStands_setTracker ..)).trans (logStands_raise ..)

theorem logStands_deliverMarker (m : Marker) : LogStands s (deliverMarker m s) := by
  cases m with
  | none => exact .refl s
  | perf => exact .refl s
  | frame => exact logStands_deliverFrame s
  | framePerf => exact logStands_deliverFrame s
  | splice => exact logStands_deliverSplice s
  | reelStart =>
    have cleared : LogStands s (deliverReelStart s) :=
      (logStands_noteActive s _).trans (.ite (logStands_setFilm ..) (.refl _))
    exact cleared
  | reelEnd => exact .refl s

/-! ### The detector (R74 to R91) -/

/-- R79: the level estimate lies beside the log, and a centre's closes keep it sound. -/
theorem logStands_evaluateCentre (ch : Channel) (n : Serial) (vn v1 v2 : Sample) :
    LogStands s (evaluateCentre ch n vn v1 v2 s) := by
  rcases inner_evaluateCentre s ch n vn v1 v2 with stands | ⟨u, noted, moved⟩
  · exact .of_inner stands
  · exact ((LogStands.of_inner noted).trans (logStands_setDetector ..)).trans (.of_inner moved)

theorem logStands_watchPosition (ch : Channel) (r : FrameRecord) : LogStands s (watchPosition ch r s) := by
  have read : LogStands s (valueRead ch r s) := .ite (.refl s) (.of_inner (inner_failedRead ..))
  have centre : LogStands (valueRead ch r s) (centreTaken ch r s) := by
    unfold centreTaken
    split
    · exact logStands_evaluateCentre ..
    · exact .refl _
  rw [watchPosition_eq]
  exact ((read.trans centre).trans (.of_inner (inner_applyForced ..))).trans
    ((logStands_setDetector ..).trans (logStands_setDetector ..))

theorem logStands_detectChannel (r : FrameRecord) (ch : Channel) : LogStands s (detectChannel r ch s) := by
  have noted : LogStands s (noteWatched r ch s) :=
    .ite ((logStands_noteActive s _).trans (.ite (logStands_noteActive ..) (.refl _))) (.refl s)
  have skipped (t : State) : LogStands t (skipPosition ch r t) :=
    (LogStands.of_inner (inner_closeContext ..)).trans
      ((logStands_setDetector ..).trans (logStands_setDetector ..))
  exact noted.trans (.ite (logStands_watchPosition ..) (skipped _))

theorem logStands_drainDetector : LogStands s (drainDetector s) :=
  ((LogStands.of_inner (inner_eachChannel (fun ch t => inner_closeContext ch (newestSerial t) t) s)).trans
    (.of_inner (inner_emptyHistories _))).trans (logStands_setDet ..)

/-! ### The stream controller (R20 to R31) -/

theorem logStands_enterState (st : StreamState) : LogStands s (enterState st s) := .of_log rfl

theorem logStands_enterDraining : LogStands s (enterDraining s) :=
  (logStands_enterState s .draining).trans (logStands_drainDetector _)

/-- R30: an admission. -/
theorem logStands_admitSlot (m : Marker) (stamp : BitVec 16) (samples : Option (Quad Sample)) :
    LogStands s (admitSlot m stamp samples s) := by
  have before : LogStands s (beforeRecord samples s) := by
    rw [beforeRecord_eq]
    exact .of_log rfl
  have taken : LogStands s (recordTaken m samples s) :=
    (before.trans (logStands_takeRecord ..)).trans (logStands_noteActive ..)
  have placed : LogStands s (recordPlaced m stamp samples s) :=
    (taken.trans (logStands_subtractAll ..)).trans (.of_log rfl)
  have running (t : State) : LogStands t (checkRunning t) := .ite (logStands_enterState ..) (.refl t)
  have after (t : State) : LogStands t (afterAdmission m t) :=
    .ite ((logStands_noteActive t _).trans (.ite (logStands_enterDraining _) (running _))) (running t)
  have admitted : LogStands s (admitRecord m stamp samples s) := by
    rw [admitRecord_eq]
    exact (placed.trans (logStands_eachChannel (fun _ _ => logStands_detectChannel ..) _)).trans
      (.of_inner (inner_endAdmission _))
  exact admitted.trans (after _)

/-- R123: the hiss reducer's reads of table memory. -/
theorem logStands_hissRecord (r : FrameRecord) (mask : Nat) (checked : Quad Sample) :
    LogStands s (hissRecord r mask checked s) := by
  have noted (active failed : Bool) (y : Int) (ch : Channel) (t : State) :
      LogStands t (noteHiss r active failed y ch t) := by
    refine .ite ((logStands_note t ..).trans (.ite ?_ (.refl _))) (.refl t)
    exact ((((logStands_note ..).trans (logStands_note ..)).trans (logStands_note ..)).trans
      (logStands_note ..)).trans (logStands_note ..)
  exact (logStands_eachChannel (fun _ _ => noted ..) s).trans (.of_log rfl)

theorem logStands_adapted (r : FrameRecord) (rest : List FrameRecord) : LogStands s (adapted r rest s) := by
  have left : LogStands s (emptied rest s) := by
    rw [emptied_eq]
    exact .of_log rfl
  have marked (t : State) (mask : Nat) : LogStands t (releaseMarks r mask t) :=
    logStands_eachChannel (fun _ _ => .ite (logStands_raise ..) (.refl _)) t
  have held (t : State) (mask : Nat) : LogStands t (noteHolds r mask t) :=
    .ite (logStands_eachChannel
      (fun _ _ => .ite ((logStands_note ..).trans (logStands_note ..)) (.refl _)) t) (.refl t)
  exact (((left.trans (logStands_note ..)).trans (marked ..)).trans (held ..)).trans (logStands_adaptRecord ..)

/-- R31: a release. -/
theorem logStands_release : LogStands s (release s) := by
  rcases hr : s.ring with _ | ⟨r, rest⟩
  · rw [release, hr]
    exact .refl s
  · obtain ⟨o, stages⟩ := release_eq hr
    rw [stages]
    exact ((logStands_adapted s r rest).trans (logStands_hissRecord ..)).trans (.of_log rfl)

theorem logStands_linkLostStep : LogStands s (linkLostStep s) := by
  have gone : LogStands s (linkGone s) := .of_log rfl
  by_cases hl : s.link.cond = .good ∧ s.link.badCount = 256
  · rw [linkLostStep_eq hl.1 hl.2]
    exact .ite (gone.trans (logStands_enterDraining _)) gone
  · rw [linkLostStep_of_not hl]
    exact .refl s

/-- R20: the start actions. -/
theorem logStands_startStreamNow (m : Marker) : LogStands s (startStreamNow m s) := by
  have looked (t : State) : LogStands t (noteLookahead t) := by
    unfold noteLookahead
    refine ((logStands_noteActive t _).trans (logStands_noteActive ..)).trans
      (logStands_eachChannel (fun ch u => ?_) _)
    exact .ite ((logStands_noteActive ..).trans
      (.ite ((logStands_noteActive ..).trans (logStands_noteActive ..)) (.refl _))) (.refl _)
  have begun : LogStands s (startBegun s) :=
    ((logStands_exchangeAt s _).trans (looked _)).trans (.of_log rfl)
  have rested (t : State) (loaded : Nat) : LogStands t (startDetector loaded t) := logStands_setDet ..
  have cancelled (t : State) : LogStands t (startCanceller t) :=
    (logStands_eachChannel (fun _ _ => logStands_noteActive ..) t).trans (logStands_setCanc ..)
  have settled (t : State) : LogStands t (startSettled m t) := .ite (.of_log rfl) (.of_log rfl)
  rw [startStreamNow_eq]
  exact (((begun.trans (rested ..)).trans (logStands_recomputeMaxLen _)).trans (cancelled _)).trans (settled _)

theorem logStands_startAndAdmit (m : Marker) (stamp : BitVec 16) (x : Quad Sample) :
    LogStands s (startAndAdmit m stamp x s) :=
  (logStands_startStreamNow ..).trans (logStands_admitSlot ..)

theorem logStands_countSlot : LogStands s (countSlot s) := .of_log rfl

theorem logStands_setOut (x : Output) : LogStands s (s.setOut x) := .of_log rfl

/-- R11, R17, R19: a slot in IDLE. -/
theorem logStands_arriveIdle (m : Marker) (c : SlotClass) : LogStands s (arriveIdle m c s) := by
  cases c with
  | bad => exact .refl s
  | idle => exact .refl s
  | sample x =>
    have noted : LogStands s (noteMarkerStart m (countSlot s)) :=
      (logStands_countSlot s).trans (.ite (logStands_noteActive ..) (.refl _))
    exact noted.trans (.ite (logStands_startAndAdmit ..) (logStands_setOut ..))

theorem logStands_arriveDraining (c : SlotClass) : LogStands s (arriveDraining c s) := by
  cases c with
  | bad => exact logStands_release s
  | idle => exact logStands_release s
  | sample x => exact (logStands_setCounters ..).trans (logStands_release (countDrained s))

/-- R16: a slot in each stream state. -/
theorem logStands_streamStep (m : Marker) (c : SlotClass) : LogStands s (streamStep m c s) := by
  have cleared := logStands_setOut s { s.out with slot := idleSlot }
  unfold streamStep
  dsimp only
  split
  · exact cleared.trans (logStands_arriveIdle ..)
  · exact (cleared.trans (logStands_countSlot _)).trans (logStands_admitSlot ..)
  · exact ((cleared.trans (logStands_countSlot _)).trans (logStands_release _)).trans (logStands_admitSlot ..)
  · exact cleared.trans (logStands_arriveDraining ..)

theorem logStands_armedStartStep (m : Marker) (x : Quad Sample) : LogStands s (armedStartStep m x s) :=
  .ite (((logStands_setOut ..).trans (logStands_countSlot _)).trans (logStands_startAndAdmit ..)) (.refl s)

end

end Sys2Proof.DefectLogging
end

section
/-! A sound log (R110): the resets, the commands, and one step as a whole. -/

namespace Sys2Proof.DefectLogging

open Sys2Proof Sys2Proof.Machine Sys2Proof.Safety Sys2Proof.SampleLink Sys2Proof.StreamRing Sys2Proof.FilmPosition
  Sys2Proof.NoiseTemplates Sys2Proof.ClickDetection

section

variable (s : State)

/-! ### Resets and the boot recall (R121, R153, R163, R187) -/

/-- R34, R54, R93: the values that follow the active bank. -/
theorem logStands_settleFromBank : LogStands s (settleFromBank s) :=
  (((logStands_noteActive s (.stream .lookahead)).trans (logStands_setStream ..)).trans
    (logStands_recomputeMains _)).trans (logStands_recomputeMaxLen _)

/-- R121: the OPEN entries that a soft reset completes stay in their slots. -/
theorem logSound_completeOpenEntries {l : DefectLog} (h : LogSound l) : LogSound (completeOpenEntries l) := by
  obtain ⟨bound, index, filled⟩ := h
  refine ⟨bound, index, fun k hk => ?_⟩
  rw [logSlot_completeOpenEntries, Option.isSome_map]
  exact filled k hk

theorem logStands_softResetNow : LogStands s (softResetNow s) := by
  have reset : LogStands s (softValues s) := ⟨logSound_completeOpenEntries⟩
  exact (reset.trans (logStands_settleFromBank _)).trans (logStands_raise ..)

theorem logKept_hardValues : LogKept (hardValues s) :=
  ⟨Nat.zero_le 256, rfl, fun k hk => absurd hk (Nat.not_lt_zero k)⟩

theorem logStands_filled (x : Tables) (p : ProfileStore) : LogStands s ((s.setTables x).setStore p) := .of_log rfl

theorem logStands_bootDoneStep : LogStands s (bootDoneStep s) := by
  unfold bootDoneStep
  split
  · exact ((logStands_filled ..).trans (logStands_settleFromBank _)).trans (logStands_raise ..)
  · exact .refl s

theorem logStands_recallDoneStep : LogStands s (recallDoneStep s) := by
  unfold recallDoneStep
  split
  · exact (logStands_filled ..).trans (logStands_raise ..)
  · exact .refl s

theorem logStands_retirementEndStep : LogStands s (retirementEndStep s) := .ite (.of_log rfl) (.refl s)

theorem logStands_drainEndStep : LogStands s (drainEndStep s) := .ite (logStands_release s) (.refl s)

/-! ### The commands (R159) -/

theorem logStands_reply (c : CmdCode) (st : Status) (data : List Word) : LogStands s (reply c st data s) :=
  .of_log rfl

variable (p : List Word)

theorem logStands_cmdSwapBanks : LogStands s (cmdSwapBanks p s) := by
  have later (t : Trigger) : LogStands s (swapLater t s) := .ite (.of_log rfl) (.of_log rfl)
  have now : LogStands s (swapNow s) :=
    .ite (.of_log rfl) ((logStands_reply ..).trans (logStands_exchangeBanks _))
  unfold cmdSwapBanks
  split
  · exact .ite now (.ite (later _) (.ite (later _) (.ite (later _) (.of_log rfl))))
  · exact .of_log rfl

theorem logStands_cmdStartStream : LogStands s (cmdStartStream p s) := by
  unfold cmdStartStream
  split
  · exact .ite (.of_log rfl) (.ite ((logStands_reply ..).trans (logStands_noteActive ..))
      (((logStands_reply ..).trans (logStands_setStream ..)).trans (logStands_noteActive ..)))
  · exact .of_log rfl

theorem logStands_cmdStopStream : LogStands s (cmdStopStream p s) := by
  have stopped : LogStands s (stopReel s) := .ite ((logStands_reply ..).trans (logStands_noteActive ..))
    (((logStands_reply ..).trans (logStands_noteActive ..)).trans (logStands_enterDraining _))
  unfold cmdStopStream
  split
  · split
    · exact .of_log rfl
    · exact stopped
    · exact stopped
    · exact .of_log rfl
  · exact .of_log rfl

theorem logStands_cmdReadTemplate : LogStands s (cmdReadTemplate p s) := by
  unfold cmdReadTemplate
  split
  · exact .ite (.of_log rfl) ((logStands_reply ..).trans (logStands_readTemplateBins ..))
  · exact .of_log rfl

/-- R119: READ_LOG moves the read index past the entries it returns. -/
theorem logStands_cmdReadLog : LogStands s (cmdReadLog p s) := by
  unfold cmdReadLog
  split
  · exact .ite (.of_log rfl) ⟨fun h => logSound_readLogAfter h _⟩
  · exact .of_log rfl

theorem logStands_cmdSoftReset : LogStands s (cmdSoftReset p s) := by
  unfold cmdSoftReset
  split
  · exact (logStands_reply ..).trans (logStands_softResetNow _)
  · exact .of_log rfl

/-- R159: the commands other than READ_LOG and SOFT_RESET reach the log by closes alone, if at all. -/
theorem logStands_runCommand (c : CmdCode) : LogStands s (runCommand c p s) := by
  cases c with
  | queryStatus => simp only [runCommand, cmdQueryStatus]; split <;> (try split) <;> exact .of_log rfl
  | readCounters => simp only [runCommand, cmdReadCounters]; split <;> exact .of_log rfl
  | clearCounters => simp only [runCommand, cmdClearCounters]; split <;> exact .of_log rfl
  | writeTable =>
    simp only [runCommand, cmdWriteTable]
    split
    · exact .of_log rfl
    split
    · exact .of_log rfl
    · exact .ite (.of_log rfl) (.ite (.of_log rfl) (.of_log rfl))
  | readTable => simp only [runCommand, cmdReadTable]; split <;> (try split) <;> exact .of_log rfl
  | swapBanks => exact logStands_cmdSwapBanks s p
  | cancelSwap => simp only [runCommand, cmdCancelSwap]; split <;> exact .of_log rfl
  | startStream => exact logStands_cmdStartStream s p
  | stopStream => exact logStands_cmdStopStream s p
  | resume => simp only [runCommand, cmdResume]; split <;> (try split) <;> exact .of_log rfl
  | setFrameTag => simp only [runCommand, cmdSetFrameTag]; split <;> (try split) <;> exact .of_log rfl
  | forceDefect =>
    simp only [runCommand, cmdForceDefect]
    split
    · exact .ite (.of_log rfl) (.ite (.of_log rfl) (.of_log rfl))
    · exact .of_log rfl
  | readLog => exact logStands_cmdReadLog s p
  | readTemplate => exact logStands_cmdReadTemplate s p
  | loadTemplate =>
    simp only [runCommand, cmdLoadTemplate]
    split
    · exact .of_log rfl
    · exact .ite (.of_log rfl) (.ite (.of_log rfl) (.of_log rfl))
  | setEventMask => simp only [runCommand, cmdSetEventMask]; split <;> exact .of_log rfl
  | readEventSummary => simp only [runCommand, cmdReadEventSummary]; split <;> exact .of_log rfl
  | ackFault => simp only [runCommand, cmdAckFault]; split <;> exact .of_log rfl
  | storeProfile =>
    simp only [runCommand, cmdStoreProfile]
    split
    · exact .ite (.of_log rfl) (.ite (.of_log rfl) (.of_log rfl))
    · exact .of_log rfl
  | recallProfile =>
    simp only [runCommand, cmdRecallProfile, recallTests]
    split
    · exact .ite (.of_log rfl) (.ite (.of_log rfl) (.ite (.of_log rfl) (.ite (.of_log rfl) (.of_log rfl))))
    · exact .of_log rfl
  | softReset => exact logStands_cmdSoftReset s p

end

/-! ### One step -/

theorem onChapters_logKept : OnChapters LogKept := by
  intro s t h units
  simp only [chapterUnits, Prod.mk.injEq] at units
  obtain ⟨-, log, -⟩ := units
  exact (LogStands.of_log log).sound h

theorem chaptersKeep_logKept : ChaptersKeep LogKept where
  onChapters := onChapters_logKept
  marker m s := (logStands_deliverMarker s m).sound
  slot m c s := (logStands_streamStep s m c).sound
  command c p s := (logStands_runCommand s p c).sound
  linkLost s := (logStands_linkLostStep s).sound
  armedStart m x s := (logStands_armedStartStep s m x).sound
  perfMiss s := (logStands_perfMissStep s).sound
  normalClose ch s := (inner_normalCloseStep ch s).log
  retirementEnd s := (logStands_retirementEndStep s).sound
  drainEnd s := (logStands_drainEndStep s).sound
  exchange t s := (logStands_exchangeAt s t).sound
  setStore _ _ h := h
  hardReset s _ := logKept_hardValues s
  bootDone s := (logStands_bootDoneStep s).sound
  recallDone s := (logStands_recallDoneStep s).sound

/-- Settles O13: an append discards from a full log first (`inner_appendEntry`), a reading moves past what it returns
(`logSound_readLogAfter`), a soft reset completes entries in their slots, and nothing else reaches the indices. -/
theorem stepKeepsLog : Obligations.StepKeepsLog := chaptersKeep_logKept.stepKeeps

end Sys2Proof.DefectLogging
end

section
/-! The words of records and images (R111, R166, R168, R170, R183). -/

namespace Sys2Proof.DefectLogging

open Sys2Proof Sys2Proof.Machine Sys2Proof.Safety Sys2Proof.NoiseTemplates

/-! ### Codes (R168, R170, R171) -/

theorem channelNum_le (ch : Channel) : channelNum ch ≤ 3 := by cases ch <;> decide

theorem optionalChannel_le (ch : Option Channel) : (ch.map channelNum).getD 0 ≤ 3 := by
  cases ch with
  | none => decide
  | some ch => exact channelNum_le ch

theorem outcomeNum_le (o : DefectOutcome) : outcomeNum o ≤ 3 := by cases o <;> decide

theorem causesNum_le (c : Causes) : causesNum c ≤ 31 := flags_le ..

theorem faultKindNum_eq (k : FaultKind) : faultKindNum k = bit (k == .templateSaturation) := by cases k <;> rfl

/-- R170: an absent engine is sent as PERF is. -/
theorem optionalEngine_eq (e : Option Engine) : (e.map engineNum).getD 0 = bit (e == some .mains) := by
  cases e with
  | none => rfl
  | some e => cases e <;> rfl

/-! ### A log entry (R111, R170) -/

/-- R170: a peak residual in its one, eight and sixteen bits. -/
theorem peak_parts (p : BitVec 25) :
    (p.extractLsb' 24 1 ++ p.extractLsb' 16 8 ++ p.extractLsb' 0 16 : BitVec (1 + 8 + 16)) = p := by
  rw [BitVec.extractLsb'_append_extractLsb'_eq_extractLsb' (by rfl),
    BitVec.extractLsb'_append_extractLsb'_eq_extractLsb' (by rfl)]
  exact BitVec.extractLsb'_eq_self

/-- R170: the first word of a log entry, whose peak residual has the top bit `top`. -/
theorem logEntryWord0_fields (e : LogEntry) (top : BitVec 1) :
    let w := wordOf (channelNum e.channel + 4 * causesNum e.causes + 128 * outcomeNum e.outcome + 512 * e.bank.num
      + 1024 * bit e.peak.isSome + 2048 * top.toNat)
    w.extractLsb' 0 2 = BitVec.ofNat 2 (channelNum e.channel) ∧
      (w.getLsbD 2 = e.causes.detected ∧ w.getLsbD 3 = e.causes.link ∧ w.getLsbD 4 = e.causes.splice ∧
        w.getLsbD 5 = e.causes.command ∧ w.getLsbD 6 = e.causes.memory) ∧
      w.extractLsb' 7 2 = BitVec.ofNat 2 (outcomeNum e.outcome) ∧ w.getLsbD 9 = (e.bank == .b1) ∧
      w.getLsbD 10 = e.peak.isSome ∧ w.extractLsb' 11 1 = top ∧ w.extractLsb' 12 4 = 0 := by
  have channel := channelNum_le e.channel
  have causes := causesNum_le e.causes
  have outcome := outcomeNum_le e.outcome
  have bank := bit_le_one (e.bank == .b1)
  have peak := bit_le_one e.peak.isSome
  have high := top.isLt
  simp only [bankNum_eq]
  have five {n : Nat} (place : n / 2 ^ 2 % 32 = causesNum e.causes) := flags_wordOf (by decide) place
  refine ⟨extract_wordOf ?_ ?_, five ?_, extract_wordOf ?_ ?_, getLsbD_wordOf ?_ ?_, getLsbD_wordOf ?_ ?_,
    (extract_wordOf (v := top.toNat) ?_ ?_).trans (BitVec.ofNat_toNat ..), extract_wordOf (v := 0) ?_ ?_⟩ <;> omega

/-! ### Events and captures (R170) -/

theorem eventWord0_fields (r : EventRecord) :
    let w := wordOf ((kindNum r.kind).val + 32 * bit r.channel.isSome + 64 * (r.channel.map channelNum).getD 0
      + 256 * bit r.param.isSome)
    w.extractLsb' 0 5 = BitVec.ofNat 5 (kindNum r.kind).val ∧ w.getLsbD 5 = r.channel.isSome ∧
      w.extractLsb' 6 2 = BitVec.ofNat 2 ((r.channel.map channelNum).getD 0) ∧ w.getLsbD 8 = r.param.isSome ∧
      w.extractLsb' 9 7 = 0 := by
  have kind := (kindNum r.kind).isLt
  have named := bit_le_one r.channel.isSome
  have channel := optionalChannel_le r.channel
  have carries := bit_le_one r.param.isSome
  refine ⟨extract_wordOf ?_ ?_, getLsbD_wordOf ?_ ?_, extract_wordOf ?_ ?_, getLsbD_wordOf ?_ ?_,
    extract_wordOf (v := 0) ?_ ?_⟩ <;> omega

theorem captureWord0_fields (c : Capture) :
    let w := wordOf (faultKindNum c.kind + 2 * bit c.channel.isSome + 4 * (c.channel.map channelNum).getD 0
      + 16 * bit c.engine.isSome + 32 * (c.engine.map engineNum).getD 0 + 64 * streamStateNum c.stream
      + 256 * modeNum c.mode + 1024 * c.active.num + 2048 * bit c.double)
    w.getLsbD 0 = (c.kind == .templateSaturation) ∧ w.getLsbD 1 = c.channel.isSome ∧
      w.extractLsb' 2 2 = BitVec.ofNat 2 ((c.channel.map channelNum).getD 0) ∧ w.getLsbD 4 = c.engine.isSome ∧
      w.getLsbD 5 = (c.engine == some .mains) ∧ w.extractLsb' 6 2 = BitVec.ofNat 2 (streamStateNum c.stream) ∧
      w.extractLsb' 8 2 = BitVec.ofNat 2 (modeNum c.mode) ∧ w.getLsbD 10 = (c.active == .b1) ∧
      w.getLsbD 11 = c.double ∧ w.extractLsb' 12 4 = 0 := by
  have kind := bit_le_one (c.kind == .templateSaturation)
  have named := bit_le_one c.channel.isSome
  have channel := optionalChannel_le c.channel
  have carries := bit_le_one c.engine.isSome
  have engine := bit_le_one (c.engine == some .mains)
  have stream := streamStateNum_le c.stream
  have mode := modeNum_le c.mode
  have bank := bit_le_one (c.active == .b1)
  have double := bit_le_one c.double
  simp only [faultKindNum_eq, optionalEngine_eq, bankNum_eq]
  refine ⟨getLsbD_wordOf ?_ ?_, getLsbD_wordOf ?_ ?_, extract_wordOf ?_ ?_, getLsbD_wordOf ?_ ?_,
    getLsbD_wordOf ?_ ?_, extract_wordOf ?_ ?_, extract_wordOf ?_ ?_, getLsbD_wordOf ?_ ?_, getLsbD_wordOf ?_ ?_,
    extract_wordOf (v := 0) ?_ ?_⟩ <;> omega

/-! ### Packed bins (R168) -/

/-- R168: the bins of a pair stand in its three words. -/
theorem packBins_pair (vs : List Sample) {m : Nat} (h : 2 * m + 1 < vs.length) : ∃ w0 w1 w2 : Word,
    (packBins vs)[3 * m]? = some w0 ∧ (packBins vs)[3 * m + 1]? = some w1 ∧ (packBins vs)[3 * m + 2]? = some w2 ∧
      vs[2 * m]? = some (w1.extractLsb' 0 8 ++ w0 : BitVec 24) ∧
      vs[2 * m + 1]? = some (w1.extractLsb' 8 8 ++ w2 : BitVec 24) := by
  induction vs using packBins.induct generalizing m with
  | case1 a b rest ih =>
    cases m with
    | zero =>
      refine ⟨_, _, _, rfl, rfl, rfl, ?_, ?_⟩
      · rw [BitVec.extractLsb'_append_eq_right, sample_parts]
        rfl
      · rw [BitVec.extractLsb'_append_eq_left, sample_parts]
        rfl
    | succ m => exact ih (m := m) (by simp only [List.length_cons] at h; omega)
  | case2 a => simp at h
  | case3 => simp at h

/-- R168: an odd last bin stands in two words. -/
theorem packBins_last (vs : List Sample) {m : Nat} (h : vs.length = 2 * m + 1) : ∃ w0 w1 : Word,
    (packBins vs)[3 * m]? = some w0 ∧ (packBins vs)[3 * m + 1]? = some w1 ∧
      vs[2 * m]? = some (w1.extractLsb' 0 8 ++ w0 : BitVec 24) ∧ w1.extractLsb' 8 8 = 0 := by
  induction vs using packBins.induct generalizing m with
  | case1 a b rest ih =>
    cases m with
    | zero => simp at h
    | succ m => exact ih (m := m) (by simp only [List.length_cons] at h; omega)
  | case2 a =>
    obtain rfl : m = 0 := by simpa using h.symm
    refine ⟨_, _, rfl, rfl, ?_, BitVec.extractLsb'_append_eq_left⟩
    rw [BitVec.extractLsb'_append_eq_right, sample_parts]
    rfl
  | case3 => simp at h

/-! ### The check of an image (R183) -/

/-- R183: the halves of the values, added one after another, are added as a sum. -/
theorem foldl_halves (vs : List (BitVec 32)) (a : Word) :
    vs.foldl (fun a v => a + v.extractLsb' 0 16 + v.extractLsb' 16 16) a =
      a + (vs.map fun v => v.extractLsb' 0 16 + v.extractLsb' 16 16).sum := by
  induction vs generalizing a with
  | nil => exact (BitVec.add_zero a).symm
  | cons v vs ih =>
    rw [List.foldl_cons, ih, List.map_cons, List.sum_cons]
    simp only [BitVec.add_assoc]

theorem halvesSum_eq (vs : List (BitVec 32)) :
    halvesSum vs = (vs.map fun v => v.extractLsb' 0 16 + v.extractLsb' 16 16).sum :=
  (foldl_halves vs 0).trans (BitVec.zero_add _)

/-- Settles O60: the first words by `logEntryWord0_fields`, `eventWord0_fields` and `captureWord0_fields`, the peak by
`peak_parts`, the bins by `packBins_pair` and `packBins_last`, and the check by `halvesSum_eq`. -/
theorem recordWordsCarryFields : Obligations.RecordWordsCarryFields := by
  refine ⟨fun e length peak => ?_, fun r => ⟨_, rfl, eventWord0_fields r⟩, fun c => ⟨_, rfl, captureWord0_fields c⟩,
    fun vs => ⟨?_, fun m h => packBins_pair vs h, fun m h => packBins_last vs h, unpackBins_packBins vs⟩,
    fun t => halvesSum_eq _⟩
  · obtain ⟨channel, ⟨detected, link, splice, command, memory⟩, outcome, bank, carries, top, zero⟩ :=
      logEntryWord0_fields e ((BitVec.ofNat 25 (e.peak.getD 0)).extractLsb' 24 1)
    refine ⟨_, _, _, _, _, _, rfl, channel, ?_, outcome, bank, carries, zero, ?_, ?_, rfl, ?_⟩
    · rw [detected, link, splice, command, memory]
    · rw [BitVec.extractLsb'_append_eq_right, sample_parts]
    · rw [top, BitVec.extractLsb'_append_eq_left, peak_parts]
      exact Nat.mod_eq_of_lt (by omega)
    · exact Nat.mod_eq_of_lt (by omega)
  · rw [packBins_length, packedLength]
    rcases Nat.mod_two_eq_zero_or_one vs.length with h | h <;> simp [h]

end Sys2Proof.DefectLogging
end

section
/-! One hiss step (R125 to R129): what moves and how far, the octave of the gain index, and where the output lies. -/

namespace Sys2Proof.HissReduction

open Sys2Proof Sys2Proof.Machine Sys2Proof.ClickDetection Sys2Proof.ClickRepair

/-! ### V and g move a floored part of the way (R126, R128) -/

/-- R126: the moved V is not negative, so it is what the rule says. -/
theorem nextEnv_eq (env size shift : Nat) :
    (nextEnv env size shift : Int) = env + ((size : Int) - env) / (2 ^ shift : Int) := by
  obtain ⟨least, -⟩ := partway_between env size (d := 2 ^ shift) (by positivity)
  exact Int.toNat_of_nonneg (by omega)

theorem nextEnv_between (env size shift : Nat) :
    min env size ≤ nextEnv env size shift ∧ nextEnv env size shift ≤ max env size := by
  obtain ⟨least, -⟩ := partway_between env size (d := 2 ^ shift) (by positivity)
  have moved := nextEnv_eq env size shift
  exact ⟨by omega, nextEnv_le env size shift⟩

/-- R128: g moves as V does. -/
theorem nextGain_eq (g entry shift : Nat) :
    (nextGain g entry shift : Int) = g + ((entry : Int) - g) / (2 ^ shift : Int) := nextEnv_eq ..

theorem nextGain_between (g entry shift : Nat) :
    min g entry ≤ nextGain g entry shift ∧ nextGain g entry shift ≤ max g entry := nextEnv_between ..

/-! ### The gain index (R127) -/

/-- R127: the index is the bit length of the quotient, at most 15. -/
theorem gainIndex_eq (env f : Nat) : gainIndex env f = min 15 (env / f).size := by
  simp only [gainIndex, ← Nat.lt_size, ← List.Ico.zero_bot, List.Ico.filter_lt, List.Ico.length, Nat.sub_zero]

/-- The index fits the table, so its entry's number is the index itself. -/
theorem gainSlot_val (env f : Nat) : (gainSlot env f).val = min 15 (env / f).size := by
  rw [gainSlot, Fin.val_ofNat, gainIndex_eq]
  omega

/-- R127: the index passes `k` from `2 ^ k` times F upward; every octave's boundary follows from this one. -/
theorem lt_gainSlot_iff {env f k : Nat} (hf : 1 ≤ f) (hk : k < 15) :
    k < (gainSlot env f).val ↔ 2 ^ k * f ≤ env := by
  rw [gainSlot_val, lt_min_iff, Nat.lt_size, Nat.le_div_iff_mul_le hf]
  exact and_iff_right hk

section

variable {env f : Nat} (hf : 1 ≤ f)

include hf

theorem gainSlot_eq_zero_iff : gainSlot env f = 0 ↔ env < f := by
  have first := lt_gainSlot_iff (env := env) hf (k := 0) (by decide)
  rw [Fin.ext_iff, Fin.val_zero]
  omega

theorem gainSlot_octave (low : 0 < (gainSlot env f).val) (high : (gainSlot env f).val < 15) :
    2 ^ ((gainSlot env f).val - 1) * f ≤ env ∧ env < 2 ^ (gainSlot env f).val * f :=
  ⟨(lt_gainSlot_iff hf (by omega)).1 (by omega), not_le.1 fun h => ((lt_gainSlot_iff hf high).2 h).false⟩

theorem gainSlot_eq_last_iff : gainSlot env f = 15 ↔ 16384 * f ≤ env := by
  have last : 14 < (gainSlot env f).val ↔ 16384 * f ≤ env := lt_gainSlot_iff hf (by decide)
  have fifteen : (15 : Fin 16).val = 15 := rfl
  rw [Fin.ext_iff, fifteen, ← last]
  omega

end

/-! ### The output (R129) -/

/-- R129: a gain up to 4,096 lets through a part of the high band, from none of it to the whole. -/
theorem hissOut_between (low high : Int) {g : Nat} (hg : g ≤ 4096) :
    min low (low + high) ≤ hissOut low high g ∧ hissOut low high g ≤ max low (low + high) := by
  obtain ⟨least, most⟩ := fraction_between high (i := g) (n := 4096) (by omega) (by omega)
  unfold hissOut
  omega

/-! ### The step -/

theorem highBand_eq (c : HissSettings) (h : Hiss) (y : Int) : highBand c h y = y - (hissAfter c h y).low := rfl

theorem rises_iff {c : HissSettings} {h : Hiss} {y : Int} :
    rises c h y = true ↔ h.env < (y - (hissAfter c h y).low).natAbs := decide_eq_true_iff

/-- R126: V moves towards the size of the high band, with the shift that its rise or fall chooses. -/
theorem hissAfter_env (c : HissSettings) (h : Hiss) (y : Int) : (hissAfter c h y).env =
    nextEnv h.env (y - (hissAfter c h y).low).natAbs
      (if h.env < (y - (hissAfter c h y).low).natAbs then c.att else c.rel) := by
  simp only [← rises_iff]
  rfl

/-- R127, R128: g moves towards the Gtab entry of the new V. -/
theorem hissAfter_gain (c : HissSettings) (h : Hiss) (y : Int) : (hissAfter c h y).gain =
    nextGain h.gain c.gtab[gainSlot (hissAfter c h y).env c.floorF] c.gainShift := rfl

/-- R128: gains up to 4,096 stay up to 4,096. -/
theorem hissAfter_gain_le {c : HissSettings} {h : Hiss} (gain : h.gain ≤ 4096)
    (gtab : ∀ i : Fin 16, c.gtab[i] ≤ 4096) (y : Int) : (hissAfter c h y).gain ≤ 4096 :=
  (nextGain_le ..).trans (max_le gain (gtab _))

/-- R129: the output lies between the new Lb and the value, the low band and the whole of both. -/
theorem hissValue_between {c : HissSettings} {h : Hiss} {y : Int} (gain : (hissAfter c h y).gain ≤ 4096) :
    min (hissAfter c h y).low y ≤ hissValue c h y ∧ hissValue c h y ≤ max (hissAfter c h y).low y := by
  have between := hissOut_between (hissAfter c h y).low (highBand c h y) gain
  rwa [highBand_eq, add_sub_cancel] at between

/-- Settles O54: Lb, V and g by `partway_between` over their steps, the octaves by `lt_gainSlot_iff`, and the output by
`hissValue_between`. -/
theorem hissStepStaysBetween : Obligations.HissStepStaysBetween := by
  intro c h y gain gtab hf n high absH shift i z
  have env : n.env = nextEnv h.env absH shift := hissAfter_env c h y
  have moved : n.gain = nextGain h.gain c.gtab[i] c.gainShift := hissAfter_gain c h y
  refine ⟨rfl, ?_, ?_, rfl, gainSlot_eq_zero_iff hf, gainSlot_octave hf, gainSlot_eq_last_iff hf,
    nextLow_between .., ?_, ?_, hissValue_between (hissAfter_gain_le gain gtab y)⟩
  · rw [env, nextEnv_eq]
  · rw [moved, nextGain_eq]
  · rw [env]
    exact nextEnv_between ..
  · rw [moved]
    exact nextGain_between ..

end Sys2Proof.HissReduction
end

section
/-! Records of the tables (R137 to R139, R142 to R144, R168): the words that name one and carry its values, its fields
in their order, and the commands that write and read one. -/

namespace Sys2Proof.TableBanks

open Sys2Proof Sys2Proof.Machine Sys2Proof.Safety Sys2Proof.StreamRing Sys2Proof.NoiseTemplates
  Sys2Proof.DefectLogging

/-! ### The words of a payload (R166, R168) -/

/-- R142, R168: what a word says that names a record. -/
theorem tableParam_some {w : Word} {table : TableCode} {ix : Channel} (h : tableParam w = some (table, ix)) :
    (w.extractLsb' 0 8).toNat = tableNum table ∧ (w.extractLsb' 8 8).toNat = channelNum ix ∧
      (table = .stream → ix = .ch0) := by
  have index {n : Nat} (hn : n ≤ 3) : n = channelNum (channelOf n) := by
    rw [channelNum_channelOf, Nat.mod_eq_of_lt (by omega)]
  unfold tableParam wordBits at h
  dsimp only at h
  split at h
  · next stream =>
    split at h
    · next zero => cases h; exact ⟨stream, zero, fun _ => rfl⟩
    · cases h
  · split at h
    · next channel =>
      split at h
      · next within => cases h; exact ⟨channel, index within, nofun⟩
      · cases h
    · split at h
      · next gain =>
        split at h
        · next within => cases h; exact ⟨gain, index within, nofun⟩
        · cases h
      · cases h

/-- R168: the word of a record names it. -/
theorem tableParam_tableName {table : TableCode} {ix : Channel} (hix : table = .stream → ix = .ch0) :
    tableParam (tableName table ix) = some (table, ix) := by
  cases table with
  | stream => rw [hix rfl]; rfl
  | channel => cases ix <;> rfl
  | gain => cases ix <;> rfl

theorem tableNum_le (table : TableCode) : tableNum table ≤ 2 := by cases table <;> decide

/-- R142, R168: a word whose table or index is out of its range names no record. -/
theorem tableParam_eq_none {w : Word} (bad : 2 < (w.extractLsb' 0 8).toNat ∨
    ((w.extractLsb' 0 8).toNat = 0 ∧ (w.extractLsb' 8 8).toNat ≠ 0) ∨ 3 < (w.extractLsb' 8 8).toNat) :
    tableParam w = none := by
  refine Option.eq_none_iff_forall_ne_some.2 fun ⟨table, ix⟩ named => ?_
  obtain ⟨tableIs, indexIs, first⟩ := tableParam_some named
  rw [tableIs, indexIs] at bad
  have tables := tableNum_le table
  have channels := channelNum_le ix
  rcases bad with past | ⟨stream, other⟩ | past
  · omega
  · cases table with
    | stream => exact other (by rw [first rfl]; rfl)
    | channel => cases stream
    | gain => cases stream
  · omega

/-- R166: a value is its two words. -/
theorem fromTwo_halves (v : BitVec 32) : fromTwo (v.extractLsb' 0 16) (v.extractLsb' 16 16) = v := by
  rw [fromTwo, BitVec.extractLsb'_append_extractLsb'_eq_extractLsb' (by rfl)]
  exact BitVec.extractLsb'_eq_self

/-- R168: the words of some values carry them. -/
theorem valuesOf_flatMap_twoWords (vs : List (BitVec 32)) : valuesOf (vs.flatMap twoWords) = vs := by
  induction vs with
  | nil => rfl
  | cons v rest ih =>
    rw [List.flatMap_cons, twoWords, List.cons_append, List.cons_append, List.nil_append, valuesOf, fromTwo_halves, ih]

theorem length_flatMap_twoWords (vs : List (BitVec 32)) : (vs.flatMap twoWords).length = 2 * vs.length := by
  simp [List.length_flatMap, twoWords, Nat.mul_comm]

/-- R166: numbers as two words each. -/
theorem flatMap_twoWordsNat (ns : List Nat) : ns.flatMap twoWordsNat = (ns.map (BitVec.ofNat 32)).flatMap twoWords := by
  rw [List.flatMap_map]
  rfl

/-! ### The fields of a record in their order (R137 to R139) -/

/-- A list with one thing for each field of a record, at the field's place. -/
structure InFieldOrder {α : Type} (table : TableCode) (ix : Channel) (l : List α) (f : FieldRef → α) : Prop where
  length : l.length = fieldCount table
  place : ∀ r : FieldRef, (fieldPlace r).1 = table → (fieldPlace r).2.1 = ix → l[(fieldPlace r).2.2]? = some (f r)

section

variable {α β γ : Type} {table : TableCode} {ix : Channel}

theorem inFieldOrder_recordSpecs : InFieldOrder table ix (recordSpecs table) fieldSpec where
  length := by cases table <;> rfl
  place r ht _ := ht ▸ recordSpecs_fieldPlace r

theorem inFieldOrder_recordFields (t : TableSetOf Field) : InFieldOrder table ix (recordFields t table ix) t.field where
  length := by cases table <;> exact Vector.length_toList
  place r ht hx := by
    subst ht hx
    cases r <;> simp [fieldPlace, recordFields, TableSetOf.field]

/-- R142: values that come one for each field are in field order. -/
theorem inFieldOrder_values {vs : List (BitVec 32)} (hv : vs.length = fieldCount table) :
    InFieldOrder table ix vs fun r => vs.getD (fieldPlace r).2.2 0 where
  length := hv
  place r ht _ := by
    have within : (fieldPlace r).2.2 < vs.length := hv ▸ ht ▸ fieldPlace_lt r
    rw [List.getElem?_eq_getElem within, List.getD_eq_getElem _ _ within]

theorem InFieldOrder.map {l : List α} {f : FieldRef → α} (h : InFieldOrder table ix l f) (g : α → β) :
    InFieldOrder table ix (l.map g) fun r => g (f r) where
  length := (List.length_map g).trans h.length
  place r ht hx := by rw [List.getElem?_map, h.place r ht hx]; rfl

theorem InFieldOrder.zipWith {l : List α} {f : FieldRef → α} (h : InFieldOrder table ix l f) {m : List β}
    {g : FieldRef → β} (hm : InFieldOrder table ix m g) (op : α → β → γ) :
    InFieldOrder table ix (List.zipWith op l m) fun r => op (f r) (g r) where
  length := by rw [List.length_zipWith, h.length, hm.length, Nat.min_self]
  place r ht hx := by rw [List.getElem?_zipWith, h.place r ht hx, hm.place r ht hx]

theorem InFieldOrder.getD {l : List α} {f : FieldRef → α} (h : InFieldOrder table ix l f) {r : FieldRef}
    (ht : (fieldPlace r).1 = table) (hx : (fieldPlace r).2.1 = ix) (d : α) : l.getD (fieldPlace r).2.2 d = f r := by
  rw [List.getD_eq_getElem?_getD, h.place r ht hx, Option.getD_some]

end

/-- R137: each number of a STREAM record is a field's. -/
theorem exists_streamField (i : Fin 14) : ∃ f : StreamField, f.idx = i := by
  have every : ∀ i : Fin 14, i ∈ [StreamField.channelMask, .lookahead, .startMode, .stopMode, .mainsMode,
    .mainsRatio, .mainsFreePeriod, .spliceGuard, .spliceLen, .missLimit, .logMode, .tagClear, .policyTable,
    .policyTemplate].map StreamField.idx := by decide
  obtain ⟨f, -, place⟩ := List.mem_map.1 (every i)
  exact ⟨f, place⟩

/-- R138: each number of a CHANNEL record is a field's. -/
theorem exists_channelField (i : Fin 16) : ∃ f : ChannelField, f.idx = i := by
  have every : ∀ i : Fin 16, i ∈ [ChannelField.perfEnable, .mainsEnable, .clickEnable, .hissEnable, .k, .tFloor,
    .maxLen, .closeRun, .perfShift, .mainsShift, .splitShift, .attShift, .relShift, .gainShift, .floorF,
    .keepTemplates].map ChannelField.idx := by decide
  obtain ⟨f, -, place⟩ := List.mem_map.1 (every i)
  exact ⟨f, place⟩

/-- R137 to R139: each place of a record is a field's. -/
theorem exists_fieldPlace {table : TableCode} {ix : Channel} (hix : table = .stream → ix = .ch0) {i : Nat}
    (hi : i < fieldCount table) :
    ∃ r : FieldRef, (fieldPlace r).1 = table ∧ (fieldPlace r).2.1 = ix ∧ (fieldPlace r).2.2 = i := by
  cases table with
  | stream =>
    obtain ⟨f, place⟩ := exists_streamField ⟨i, hi⟩
    exact ⟨.stream f, rfl, (hix rfl).symm, congrArg Fin.val place⟩
  | channel =>
    obtain ⟨f, place⟩ := exists_channelField ⟨i, hi⟩
    exact ⟨.chan ix f, rfl, rfl, congrArg Fin.val place⟩
  | gain => exact ⟨.gain ix ⟨i, hi⟩, rfl, rfl, rfl⟩

/-! ### The number of the first field (R143, R144) -/

theorem firstNumber_eq_zero {bs : List Bool} (unmarked : true ∉ bs) : firstNumber bs = 0 := by
  refine if_neg fun marked => unmarked ?_
  obtain ⟨b, mem, rfl⟩ := List.any_eq_true.1 marked
  exact mem

theorem firstNumber_eq_succ {bs : List Bool} {i : Nat} (here : bs[i]? = some true)
    (before : ∀ j, j < i → bs[j]? ≠ some true) : firstNumber bs = i + 1 := by
  obtain ⟨within, marked⟩ := List.getElem?_eq_some_iff.1 here
  have index : bs.findIdx id = i := (List.findIdx_eq within).2 ⟨marked, fun j less => by
    have other := before j less
    rw [List.getElem?_eq_getElem (by omega)] at other
    simpa using other⟩
  have any : bs.any id = true := List.any_eq_true.2 ⟨bs[i], List.getElem_mem within, marked⟩
  rw [firstNumber, if_pos any, index]

section

variable {table : TableCode} {ix : Channel} (hix : table = .stream → ix = .ch0) {bs : List Bool}
  {mark : FieldRef → Bool} (h : InFieldOrder table ix bs mark)

include hix h

/-- With no field of the record marked there is no first one. -/
theorem InFieldOrder.firstNumber_none
    (unmarked : ∀ r : FieldRef, (fieldPlace r).1 = table → (fieldPlace r).2.1 = ix → mark r = false) :
    firstNumber bs = 0 := by
  refine firstNumber_eq_zero fun mem => ?_
  obtain ⟨i, here⟩ := List.mem_iff_getElem?.1 mem
  obtain ⟨within, -⟩ := List.getElem?_eq_some_iff.1 here
  obtain ⟨r, ht, hx, rfl⟩ := exists_fieldPlace hix (h.length ▸ within)
  rw [h.place r ht hx, unmarked r ht hx] at here
  cases here

/-- The number of the first marked field is its place, counted from 1. -/
theorem InFieldOrder.firstNumber_first {r : FieldRef} (ht : (fieldPlace r).1 = table) (hx : (fieldPlace r).2.1 = ix)
    (marked : mark r = true)
    (before : ∀ q : FieldRef, (fieldPlace q).1 = table → (fieldPlace q).2.1 = ix →
      (fieldPlace q).2.2 < (fieldPlace r).2.2 → mark q = false) :
    firstNumber bs = (fieldPlace r).2.2 + 1 := by
  refine firstNumber_eq_succ (by rw [h.place r ht hx, marked]) fun j less => ?_
  obtain ⟨q, qt, qx, rfl⟩ := exists_fieldPlace hix (less.trans (ht ▸ fieldPlace_lt r))
  rw [h.place q qt qx, before q qt qx less]
  decide

end

/-! ### WRITE_TABLE (R142, R143) -/

/-- R142: what stands at each field after a record's write. -/
theorem field_writeRecord_eq {table : TableCode} {ix : Channel} (hix : table = .stream → ix = .ch0)
    (vs : List (BitVec 32)) (t : TableSetOf Field) (r : FieldRef) : (writeRecord table ix vs t).field r =
      if (fieldPlace r).1 = table ∧ (fieldPlace r).2.1 = ix then freshField (vs.getD (fieldPlace r).2.2 0)
      else t.field r := by
  cases table with
  | stream =>
    cases r with
    | stream f => simp [hix rfl, writeRecord, TableSetOf.field, fieldPlace]
    | chan ch f => rfl
    | gain ch i => rfl
  | channel =>
    cases r with
    | stream f => rfl
    | chan ch f => by_cases e : ch = ix <;> simp [writeRecord, TableSetOf.field, fieldPlace, Quad.get_set, e]
    | gain ch i => rfl
  | gain =>
    cases r with
    | stream f => rfl
    | chan ch f => rfl
    | gain ch i => by_cases e : ch = ix <;> simp [writeRecord, TableSetOf.field, fieldPlace, Quad.get_set, e]

/-- R142, R185: the standby bank filled with new contents, and its table-fault flag cleared. -/
def standbyFilled (t : Tables) (x : TableSetOf Field) : Tables :=
  withTableFault (withBank t (standbyBank t) x) (standbyBank t) false

section

variable (t : Tables) (x : TableSetOf Field)

theorem bankOf_standbyFilled :
    bankOf (standbyFilled t x) t.active.opposite = x ∧ bankOf (standbyFilled t x) t.active = bankOf t t.active := by
  obtain ⟨_, _, active⟩ := t
  cases active <;> exact ⟨rfl, rfl⟩

theorem tableFault_standbyFilled : tableFault (standbyFilled t x) t.active.opposite = false ∧
    tableFault (standbyFilled t x) t.active = tableFault t t.active := by
  obtain ⟨_, _, active⟩ := t
  cases active <;> exact ⟨rfl, rfl⟩

/-- R140: filling a bank leaves the bank states and the pending exchange. -/
theorem states_standbyFilled : (standbyFilled t x).active = t.active ∧ (standbyFilled t x).other = t.other ∧
    (standbyFilled t x).pendingX = t.pendingX := by
  obtain ⟨_, _, active⟩ := t
  cases active <;> exact ⟨rfl, rfl, rfl⟩

end

theorem exec_writeTable {s : State} (h : Ready s) {head : Word} {rest : List Word} (hr : rest.length ≤ 62) :
    exec (.writeTable (head :: rest)) s = .next (cmdWriteTable (head :: rest) (endAssembly s)) :=
  exec_ready (c := .writeTable) (p := head :: rest) h (Nat.succ_le_succ hr)

/-- R142: a payload that names no record, or has not its number of values, is refused. -/
theorem cmdWriteTable_bad {head : Word} {rest : List Word}
    (bad : ∀ table ix, tableParam head = some (table, ix) → rest.length ≠ 2 * fieldCount table) (s : State) :
    cmdWriteTable (head :: rest) s = reply .writeTable .badParam [] s := by
  cases named : tableParam head with
  | none => simp only [cmdWriteTable, named]
  | some record => simp only [cmdWriteTable, named, if_pos (bad record.1 record.2 named)]

/-- R142: a payload that names a record and has its number of values. -/
theorem cmdWriteTable_record {table : TableCode} {ix : Channel} (hix : table = .stream → ix = .ch0)
    {vs : List (BitVec 32)} (hv : vs.length = fieldCount table) (s : State) :
    cmdWriteTable (tableName table ix :: vs.flatMap twoWords) s =
      if s.tables.other ≠ .standby then reply .writeTable .busy [] s
      else (placeReply (CmdCode.code .writeTable)
        [statusWord (if firstClamped table vs = 0 then .ok else .okClamped) (firstClamped table vs),
          wordOf (standbyBank s.tables).num] s).setTables (writeStandby table ix (clampRecord table vs) s.tables) := by
  have count : ¬ (vs.flatMap twoWords).length ≠ 2 * fieldCount table := by rw [length_flatMap_twoWords, hv]; simp
  simp only [cmdWriteTable, tableParam_tableName hix, if_neg count, valuesOf_flatMap_twoWords]

theorem fieldCount_eq (table : TableCode) : fieldCount table = if table = .stream then 14 else 16 := by
  cases table <;> rfl

/-- R143: the values of a record, clamped, at their fields' places. -/
theorem inFieldOrder_clampRecord {table : TableCode} {ix : Channel} {vs : List (BitVec 32)}
    (hv : vs.length = fieldCount table) :
    InFieldOrder table ix (clampRecord table vs) fun r => clampedTo r (vs.getD (fieldPlace r).2.2 0) :=
  inFieldOrder_recordSpecs.zipWith (inFieldOrder_values hv) clampField

/-- R143: the fields whose values are clamped, at their places. -/
theorem inFieldOrder_clamped {table : TableCode} {ix : Channel} {vs : List (BitVec 32)}
    (hv : vs.length = fieldCount table) :
    InFieldOrder table ix (List.zipWith (fun sp v => clampField sp v != v) (recordSpecs table) vs)
      fun r => clampedTo r (vs.getD (fieldPlace r).2.2 0) != vs.getD (fieldPlace r).2.2 0 :=
  inFieldOrder_recordSpecs.zipWith (inFieldOrder_values hv) fun sp v => clampField sp v != v

/-- Settles O19: a payload that names a record writes it by `field_writeRecord_eq` over `inFieldOrder_clampRecord`, and
the number in the reply is that of the first field of `inFieldOrder_clamped`. -/
theorem writeTableWritesOneRecord : Obligations.WriteTableWritesOneRecord := by
  refine ⟨fun s head rest ready room => ?_, fun s table ix vs ready hv hix => ?_⟩
  · intro table index bad
    refine (exec_writeTable ready room).trans (congrArg _ (cmdWriteTable_bad (fun named ix param => ?_) _))
    have length : rest.length ≠ if table = 0 then 28 else 32 := by
      rcases bad with past | first | past | length
      · cases (tableParam_eq_none (.inl past)).symm.trans param
      · cases (tableParam_eq_none (.inr (.inl first))).symm.trans param
      · cases (tableParam_eq_none (.inr (.inr past))).symm.trans param
      · exact length
    have number : table = tableNum named := (tableParam_some param).1
    rw [number] at length
    cases named <;> exact length
  · intro payload b
    rw [← fieldCount_eq] at hv
    have few : (vs.flatMap twoWords).length ≤ 62 := by
      rw [length_flatMap_twoWords, hv]
      cases table <;> decide
    have run := exec_writeTable ready (head := tableName table ix) few
    rw [cmdWriteTable_record hix hv] at run
    refine ⟨fun busy => run.trans (congrArg _ (if_pos busy)), fun standby => ?_⟩
    set record := writeRecord table ix (clampRecord table vs) (bankOf s.tables b)
    obtain ⟨written, stands⟩ := bankOf_standbyFilled s.tables record
    obtain ⟨cleared, flagStands⟩ := tableFault_standbyFilled s.tables record
    obtain ⟨active, other, pending⟩ := states_standbyFilled s.tables record
    refine ⟨_, _, run.trans (congrArg _ (if_neg (not_not_intro standby))), rfl, fun r => ?_, fun r => ?_, cleared,
      flagStands, Prod.ext active (Prod.ext other pending), fun sound => ?_, fun r ht hx clamped before => ?_⟩
    · refine (congrArg (TableSetOf.field · r) written).trans ((field_writeRecord_eq hix ..).trans ?_)
      split
      · next here =>
        obtain ⟨ht, hx⟩ := here
        rw [(inFieldOrder_clampRecord hv).getD ht hx]
      · rfl
    · exact congrArg (TableSetOf.field · r) stands
    · have zero : firstClamped table vs = 0 := (inFieldOrder_clamped hv).firstNumber_none hix fun r ht hx => by
        rw [sound r ht hx, bne_self_eq_false]
      rw [zero]
      rfl
    · have number : firstClamped table vs = (fieldPlace r).2.2 + 1 :=
        (inFieldOrder_clamped hv).firstNumber_first hix ht hx (bne_iff_ne.2 clamped) fun q qt qx less => by
          rw [before q qt qx less, bne_self_eq_false]
      rw [number, if_neg (Nat.succ_ne_zero _)]
      rfl

/-! ### READ_TABLE (R144, R150, R152) -/

theorem bankParam_num (b : BankId) : bankParam (BitVec.ofNat 16 b.num) = some b := by cases b <;> rfl

/-- R168: a word above 1 names no bank. -/
theorem bankParam_eq_none {w : Word} (past : 1 < w.toNat) : bankParam w = none := by
  have neither : w ≠ 0 ∧ w ≠ 1 := by constructor <;> rintro rfl <;> exact absurd past (by decide)
  rw [bankParam, if_neg neither.1, if_neg neither.2]

theorem exec_readTable {s : State} (h : Ready s) (bank name : Word) :
    exec (.readTable [bank, name]) s = .next (cmdReadTable [bank, name] (endAssembly s)) :=
  exec_ready (c := .readTable) (p := [bank, name]) h (Nat.le_add_left 2 61)

/-- R144: a payload that names no bank or no record is refused. -/
theorem cmdReadTable_bad {bank name : Word} (bad : bankParam bank = none ∨ tableParam name = none) (s : State) :
    cmdReadTable [bank, name] s = reply .readTable .badParam [] s := by
  rcases bad with noBank | noRecord
  · simp only [cmdReadTable, noBank]
  · simp only [cmdReadTable, noRecord]
    cases bankParam bank <;> rfl

/-- R144: a payload that names a bank's record. -/
theorem cmdReadTable_record {table : TableCode} {ix : Channel} (hix : table = .stream → ix = .ch0) (b : BankId)
    (s : State) : cmdReadTable [BitVec.ofNat 16 b.num, tableName table ix] s =
      reply .readTable .ok (tableWords s b table ix) s := by
  simp only [cmdReadTable, bankParam_num, tableParam_tableName hix]

/-- R150: the value that a read of a field gives. -/
theorem ofNat_fieldRead (sp : FieldSpec) (f : Field) :
    BitVec.ofNat 32 (fieldRead sp f) = if fieldOk f then f.val else BitVec.ofNat 32 sp.dflt := by
  rw [fieldRead, apply_ite (BitVec.ofNat 32), BitVec.ofNat_toNat, BitVec.setWidth_eq]

/-- R168: the first word of READ_TABLE's reply data. -/
theorem recordWord_fields (t : Tables) (b : BankId) (table : TableCode) (ix : Channel) :
    let w := wordOf (b.num + 2 * bankStateNum t b + 8 * tableNum table + 32 * channelNum ix)
    w.getLsbD 0 = (b == .b1) ∧ w.extractLsb' 1 2 = BitVec.ofNat 2 (bankStateNum t b) ∧
      w.extractLsb' 3 2 = BitVec.ofNat 2 (tableNum table) ∧ w.extractLsb' 5 2 = BitVec.ofNat 2 (channelNum ix) ∧
      w.extractLsb' 7 9 = 0 := by
  have bank := bit_le_one (b == .b1)
  have state := bankStateNum_le t b
  have tables := tableNum_le table
  have channels := channelNum_le ix
  rw [bankNum_eq]
  refine ⟨getLsbD_wordOf ?_ ?_, extract_wordOf ?_ ?_, extract_wordOf ?_ ?_, extract_wordOf ?_ ?_,
    extract_wordOf (v := 0) ?_ ?_⟩ <;> omega

/-- Settles O20: the values are the record's in `InFieldOrder`, each as `ofNat_fieldRead` reads it, and the number is
that of the first field whose check fails. -/
theorem readTableReplies : Obligations.ReadTableReplies := by
  refine ⟨fun s bank name ready => ?_, fun s b table ix ready hix => ?_⟩
  · intro table index bad
    exact (exec_readTable ready bank name).trans
      (congrArg _ (cmdReadTable_bad (bad.imp bankParam_eq_none tableParam_eq_none) _))
  · set fields := recordFields (bankOf s.tables b) table ix
    have stored : InFieldOrder table ix fields (storedField s b) := inFieldOrder_recordFields _
    have failing := stored.map fun f => !fieldOk f
    have values := (inFieldOrder_recordSpecs.zipWith stored fieldRead).map (BitVec.ofNat 32)
    obtain ⟨bank, state, tableIs, indexIs, zero⟩ := recordWord_fields s.tables b table ix
    refine ⟨wordOf (b.num + 2 * bankStateNum s.tables b + 8 * tableNum table + 32 * channelNum ix),
      wordOf (firstNumber (fields.map fun f => !fieldOk f)),
      (List.zipWith fieldRead (recordSpecs table) fields).map (BitVec.ofNat 32), ?_,
      values.length.trans (fieldCount_eq table), fun r ht hx => ?_, fun sound => ?_, fun r ht hx fails before => ?_,
      bank, state.trans (bankState_eq ..), tableIs, indexIs, zero⟩
    · refine (exec_readTable ready ..).trans (congrArg _ ((cmdReadTable_record hix ..).trans ?_))
      rw [tableWords, flatMap_twoWordsNat]
      rfl
    · exact (values.getD ht hx 0).trans (ofNat_fieldRead ..)
    · rw [failing.firstNumber_none hix fun r ht hx => by rw [sound r ht hx, Bool.not_true]]
      rfl
    · rw [failing.firstNumber_first hix ht hx (by rw [fails, Bool.not_false]) fun q qt qx less => by
        rw [before q qt qx less, Bool.not_true]]
      rfl

end Sys2Proof.TableBanks
end

section
/-! The profile store (R183 to R185): how a store and a recall begin, and how they end. -/

namespace Sys2Proof.TableBanks

open Sys2Proof Sys2Proof.Machine Sys2Proof.Safety Sys2Proof.StreamRing

/-! ### STORE_PROFILE and RECALL_PROFILE (R152, R184, R185) -/

/-- R152: each field of a bank's image is the value that a read of it gives. -/
theorem field_readImage (t : TableSetOf Field) (r : FieldRef) :
    (readImage t).field r = BitVec.ofNat 32 (fieldRead (fieldSpec r) (t.field r)) := by
  cases r <;> simp [readImage, TableSetOf.field, fieldSpec]

theorem exec_storeProfile {s : State} (h : Ready s) (w : Word) :
    exec (.storeProfile [w]) s = .next (cmdStoreProfile [w] (endAssembly s)) :=
  exec_ready (c := .storeProfile) (p := [w]) h (Nat.le_add_left 1 62)

theorem exec_recallProfile {s : State} (h : Ready s) (w : Word) :
    exec (.recallProfile [w]) s = .next (cmdRecallProfile [w] (endAssembly s)) :=
  exec_ready (c := .recallProfile) (p := [w]) h (Nat.le_add_left 1 62)

/-- R185: the tests of RECALL_PROFILE behind the slot's number, in their order. -/
theorem recallTests_eq (i : Channel) (s : State) : recallTests i s =
    if (s.store.slots.get i).valid = false then reply .recallProfile .storeInvalid [] s
    else if s.store.op ≠ .ready ∨ s.tables.other = .retiring ∨ s.tables.pendingX ≠ none then
      reply .recallProfile .busy [] s
    else beginRecall i (reply .recallProfile .accepted [] s) := by
  unfold recallTests slotOf
  by_cases ready : s.store.op = .ready <;> simp [ready]

/-- Settles O34: the tests of the two commands in their order, and what `beginStore` and `beginRecall` change. -/
theorem storeAndRecallBegin : Obligations.StoreAndRecallBegin := by
  refine ⟨fun s w ready => ?_, fun s w ready => ?_⟩
  · intro i
    rw [exec_storeProfile ready, cmdStoreProfile]
    refine ⟨fun past => congrArg _ (if_pos past), fun slot busy => ?_, fun slot free =>
      ⟨readImage (bankOf s.tables s.tables.active.opposite), fun r => field_readImage _ r, ?_⟩⟩
    · rw [if_neg (Nat.not_lt.2 slot)]
      exact congrArg _ (if_pos busy)
    · rw [if_neg (Nat.not_lt.2 slot)]
      exact congrArg _ (if_neg (not_not_intro free))
  · intro i valid blocked
    rw [exec_recallProfile ready, cmdRecallProfile, recallTests_eq]
    refine ⟨fun past => congrArg _ (if_pos past), fun slot invalid => ?_, fun slot isValid busy => ?_,
      fun slot isValid free open' => ?_⟩
    · rw [if_neg (Nat.not_lt.2 slot)]
      exact congrArg _ (if_pos invalid)
    · rw [if_neg (Nat.not_lt.2 slot)]
      exact congrArg _ ((if_neg (ne_false_of_eq_true isValid)).trans (if_pos busy))
    · rw [if_neg (Nat.not_lt.2 slot)]
      have rests : ¬ (s.store.op ≠ .ready ∨ blocked) := not_or.2 ⟨not_not_intro free, open'⟩
      exact congrArg _ ((if_neg (ne_false_of_eq_true isValid)).trans (if_neg rests))

/-! ### The completions (R184, R185) -/

theorem checkMatches_iff (x : Slot) : checkMatches x = true ↔ imageCheck x.image = x.check := beq_iff_eq

/-- R185: the end of a recall whose check matches. -/
theorem recallDoneStep_matches {s : State} {i : Channel} (reading : s.store.op = .recalling i)
    (sound : imageCheck (s.store.slots.get i).image = (s.store.slots.get i).check) : recallDoneStep s =
      withEvent .recallDone none (some (BitVec.ofNat 32 (channelNum i)))
        { s with
          store := ⟨s.store.slots, .ready⟩
          tables := { standbyFilled s.tables (freshBank (clampImage (s.store.slots.get i).image)) with
            other := .standby } } := by
  have good : checkMatches (slotOf s.store i) = true := (checkMatches_iff _).2 sound
  simp only [recallDoneStep, reading, good]
  rfl

/-- R185: the end of a recall whose check does not match. -/
theorem recallDoneStep_fails {s : State} {i : Channel} (reading : s.store.op = .recalling i)
    (fails : imageCheck (s.store.slots.get i).image ≠ (s.store.slots.get i).check) : recallDoneStep s =
      withEvent .recallDone none (some (BitVec.ofNat 32 (channelNum i + 4)))
        { s with
          store := ⟨s.store.slots.set i { s.store.slots.get i with valid := false }, .ready⟩
          tables := { s.tables with other := .standby } } := by
  have bad : checkMatches (slotOf s.store i) = false := Bool.eq_false_iff.2 (mt (checkMatches_iff _).1 fails)
  simp only [recallDoneStep, reading, bad]
  rfl

/-- Settles O59: each completion is its step in the live part, and the recalled bank is `standbyFilled` with the slot's
clamped image. -/
theorem storeOperationsComplete : Obligations.StoreOperationsComplete := by
  intro s i live x b
  have row (f : State → State) : actWhen s.live f s = .next (f s) := congrArg Host.Outcome.next (if_pos live)
  refine ⟨fun img check erasing => ?_, fun img check programming => ?_, fun reading sound => ?_,
    fun reading fails => (row _).trans (congrArg _ (recallDoneStep_fails reading fails))⟩
  · refine (row _).trans (congrArg _ ?_)
    simp only [eraseEndStep, erasing]
    rfl
  · refine (row _).trans (congrArg _ ?_)
    simp only [storeDoneStep, programming]
    rfl
  · set image := freshBank (clampImage x.image)
    obtain ⟨filled, stands⟩ := bankOf_standbyFilled s.tables image
    obtain ⟨cleared, flagStands⟩ := tableFault_standbyFilled s.tables image
    obtain ⟨active, -, pending⟩ := states_standbyFilled s.tables image
    refine ⟨_, (row _).trans (congrArg _ (recallDoneStep_matches reading sound)), rfl,
      fun r => ⟨?_, congrArg (TableSetOf.field · r) stands⟩, cleared, flagStands,
      Prod.ext active (Prod.ext rfl pending)⟩
    have recalled : image.field r = freshField (clampedTo r (x.image.field r)) :=
      (field_freshBank ..).trans (congrArg freshField (field_clampImage ..))
    exact (congrArg (TableSetOf.field · r) filled).trans recalled

end Sys2Proof.TableBanks
end

section
/-! Failing reads of table memory (R150, R151), the end of a retirement (R149) and of a message (R160, R165). -/

namespace Sys2Proof.TableBanks

open Sys2Proof Sys2Proof.Machine Sys2Proof.Safety Sys2Proof.SampleLink Sys2Proof.StreamRing Sys2Proof.NoiseTemplates

/-! ### A stage's read of a failing field -/

/-- R150, R151: a bank's later failing reads change nothing. -/
theorem note_reported {s : State} {b : BankId} {r : FieldRef} (fails : fieldOk (storedField s b r) = false)
    (reported : tableFault s.tables b = true) : note b r s = s := by
  rw [note, noteWith, if_neg (ne_true_of_eq_false fails), if_pos reported]

/-- R150, R151: a bank's first failing read sets its flag and hands on a fault. -/
theorem note_first {s : State} {b : BankId} {r : FieldRef} (fails : fieldOk (storedField s b r) = false)
    (first : tableFault s.tables b = false) : note b r s =
      takeFault .tableMemory (fieldChannel r) none (s.setTables (withTableFault s.tables b true)) := by
  rw [note, noteWith, if_neg (ne_true_of_eq_false fails), if_neg (ne_true_of_eq_false first)]

/-- R151: a table-fault flag is no part of a bank's contents. -/
theorem storedField_withTableFault (s : State) (b c : BankId) (v : Bool) (r : FieldRef) :
    storedField (s.setTables (withTableFault s.tables b v)) c r = storedField s c r := by
  cases b <;> cases c <;> rfl

theorem active_withTableFault (t : Tables) (b : BankId) (v : Bool) : (withTableFault t b v).active = t.active := by
  cases b <;> rfl

/-- Settles O53: the branches of `noteWith`, and for the first failing read `takeFault_reported` under the set flag. -/
theorem failingReadIsReportedOnce : Obligations.FailingReadIsReportedOnce := by
  intro s b r
  refine ⟨fun sound => ⟨note_sound sound, if_pos sound⟩, setting_of_failing, note_reported, ?_⟩
  intro fails first empty sound report ch
  set flagged := s.setTables (withTableFault s.tables b true)
  have active : flagged.tables.active = s.tables.active := active_withTableFault ..
  have policy : storedField flagged flagged.tables.active (policyField .tableMemory) =
      storedField s s.tables.active (.stream .policyTable) := by
    rw [active]
    exact storedField_withTableFault ..
  have taken := takeFault_reported (s := flagged) (k := .tableMemory) (fieldChannel r) none empty (policy ▸ sound)
    ((congrArg (fieldRead _) policy).trans report)
  rw [note_first fails first, taken, captureOf, active]
  cases r <;> rfl

/-! ### The end of a retirement and of a message -/

/-- R165: once every word of the message in transmission has been sent, it is removed. -/
theorem messageSentStep_whole {s : State} {t : Transmission} (sending : s.tx = some t)
    (whole : (txWords s t).length ≤ t.sent) : messageSentStep s = (removeSent t s).setTx none := by
  simp only [messageSentStep, sending, if_pos whole]

/-- Settles O45: the RETIRING bank meets the row's test, and the words of the message by `messageWords_length`. -/
theorem retirementAndMessageEnds : Obligations.RetirementAndMessageEnds := by
  refine ⟨fun s serving retiring empty => ?_, fun s r rest live replies sending => ?_,
    fun s e rest live queue sending => ?_⟩
  · exact congrArg Host.Outcome.next ((if_pos serving).trans (if_pos ⟨retiring, empty⟩))
  · have whole : (txWords s ⟨true, r.body.length + 2⟩).length ≤ r.body.length + 2 := by
      rw [txWords_reply replies, replyMessage, messageWords_length]
    refine congrArg Host.Outcome.next ((if_pos live).trans ((messageSentStep_whole sending whole).trans ?_))
    simp only [removeSent, if_true, replies]
    rfl
  · have whole : (txWords s ⟨false, 8⟩).length ≤ 8 := by
      rw [txWords_event queue, eventMessage, messageWords_length]
      exact le_rfl
    refine congrArg Host.Outcome.next ((if_pos live).trans ((messageSentStep_whole sending whole).trans ?_))
    simp only [removeSent, Bool.false_eq_true, if_false, queue]
    rfl

end Sys2Proof.TableBanks
end

section
/-! The event queue's state (R172, R174): the pending set holds masked kinds alone, under raisings and a new mask. -/

namespace Sys2Proof.ControlMessages

open Sys2Proof Sys2Proof.Machine Sys2Proof.Safety

/-! ### Masked kinds -/

/-- A set of kinds meets the set of one kind where it holds that kind. -/
theorem and_one_shiftLeft_ne_zero (m : BitVec 32) (k : Fin 18) : (m &&& 1#32 <<< k.val != 0) = m.getLsbD k.val := by
  have inside : k.val < 32 := by omega
  rw [← BitVec.twoPow_eq, BitVec.and_twoPow]
  split
  · next hk =>
    rw [hk, bne_iff_ne]
    exact fun zero => by simpa [inside] using congrArg (BitVec.getLsbD · k.val) zero
  · next hk => simpa using hk

theorem isMasked_eq (k : EventKind) (e : Events) : isMasked k e = e.mask.getLsbD (kindNum k).val :=
  and_one_shiftLeft_ne_zero e.mask (kindNum k)

/-- The record of a kind once that of one kind is replaced. -/
theorem kept_set (kept : Vector (Option EventRecord) 18) (i j : Fin 18) (x : Option EventRecord) :
    (kept.set i x)[j] = if j = i then x else kept[j] := by
  simp only [Fin.getElem_fin, Vector.getElem_set, Fin.ext_iff, eq_comm]

/-! ### What a raising leaves of the pending set (R172) -/

theorem placeRecord_kept (r : EventRecord) (e : Events) (j : Fin 18) : (placeRecord r e).kept[j] = e.kept[j] := by
  unfold placeRecord
  split <;> rfl

/-- R172: an offered record adds nothing to the pending set but EVENTS_LOST, where that is masked. -/
theorem offerRecord_kept (tag : BitVec 24) (offset : BitVec 16) (r : EventRecord) (e : Events) (j : Fin 18) :
    (offerRecord tag offset r e).kept[j] = e.kept[j] ∨ j = 15 ∧ e.mask.getLsbD j.val = true ∧
      ∃ q, q.kind = .eventsLost ∧ (offerRecord tag offset r e).kept[j] = some q := by
  unfold offerRecord
  split
  · exact .inl rfl
  · rw [placeRecord_kept]
    split
    · exact .inl rfl
    · have masked : isMasked .eventsLost (seeKind .eventsLost { e with lost := 0 }) = e.mask.getLsbD 15 :=
        isMasked_eq ..
      unfold raiseEventsLost
      dsimp only
      rw [masked]
      split
      · next held =>
        by_cases lost : j = 15
        · subst lost
          exact .inr ⟨rfl, held, _, rfl, by rw [keepRecord, kept_set]; exact if_pos rfl⟩
        · exact .inl (by rw [keepRecord, kept_set]; exact if_neg lost)
      · rw [placeRecord_kept]
        exact .inl rfl

/-! ### A sound event queue -/

/-- R172, R174: the queue holds at most 32 records, the kinds that are never masked are not, and each record of the
pending set is of its own kind and masked, but for the kinds that a new mask has `waiting` for their turn. -/
structure EventsSound (waiting : List (Fin 18)) (e : Events) : Prop where
  bound : e.queue.length ≤ 32
  ignored : e.mask &&& 0xFFFD6000#32 = 0
  pending : ∀ (k : Fin 18) (r : EventRecord), e.kept[k] = some r →
    kindNum r.kind = k ∧ (e.mask.getLsbD k.val = true ∨ k ∈ waiting)

theorem eventsSound_nil_iff {s : State} :
    EventsSound [] s.events ↔ s.events.queue.length ≤ 32 ∧ MaskKept s :=
  ⟨fun ⟨bound, ignored, pending⟩ => ⟨bound, ignored, by simpa using pending⟩,
    fun ⟨bound, ignored, pending⟩ => ⟨bound, ignored, by simpa using pending⟩⟩

namespace EventsSound

variable {waiting : List (Fin 18)} {e : Events} (h : EventsSound waiting e)

include h

/-- R172 step 2: a masked kind's record is of that kind. -/
theorem keepRecord {r : EventRecord} (masked : e.mask.getLsbD (kindNum r.kind).val = true) :
    EventsSound waiting (keepRecord r e) := by
  refine ⟨h.bound, h.ignored, fun k q hq => ?_⟩
  rw [Machine.keepRecord, kept_set] at hq
  split at hq
  · next same => cases hq; exact ⟨same.symm, .inl (same ▸ masked)⟩
  · exact h.pending k q hq

/-- R172 steps 3 to 5. -/
theorem offerRecord (tag : BitVec 24) (offset : BitVec 16) (r : EventRecord) :
    EventsSound waiting (offerRecord tag offset r e) := by
  refine ⟨offerRecord_queue_le h.bound, by rw [offerRecord_mask]; exact h.ignored, fun k q hq => ?_⟩
  rw [offerRecord_mask]
  rcases offerRecord_kept tag offset r e k with same | ⟨rfl, masked, lost, kind, gained⟩
  · exact h.pending k q (same ▸ hq)
  · rw [gained] at hq
    cases hq
    exact ⟨by rw [kind]; rfl, .inl masked⟩

/-- R172: a raising. -/
theorem takeRaising (r : EventRecord) : EventsSound waiting (takeRaising r e) := by
  have seen : EventsSound waiting (seeKind r.kind e) := ⟨h.bound, h.ignored, h.pending⟩
  unfold Machine.takeRaising
  dsimp only
  split
  · next masked => exact seen.keepRecord (isMasked_eq r.kind _ ▸ masked)
  · exact seen.offerRecord ..

omit h in
theorem of_raisedAfter {v : Events} (raised : RaisedAfter e v) (h : EventsSound waiting e) :
    EventsSound waiting v := by
  obtain ⟨rs, rfl⟩ := raised
  induction rs generalizing e with
  | nil => exact h
  | cons r rs ih => exact ih (h.takeRaising r)

end EventsSound

/-! ### A new mask (R174) -/

section

variable (tag : BitVec 24) (offset : BitVec 16)

/-- R174: a kind that the mask leaves unmasked is taken out of the pending set and offered. -/
theorem unmaskKind_offers {k : Fin 18} {e : Events} {r : EventRecord} (kept : e.kept[k] = some r)
    (free : e.mask.getLsbD k.val = false) :
    unmaskKind tag offset k e = offerRecord tag offset r { e with kept := e.kept.set k none } := by
  simp only [unmaskKind, kept, and_one_shiftLeft_ne_zero, free, Bool.false_eq_true, if_false]

/-- R174: a kind that stays masked, or has no record, is passed over. -/
theorem unmaskKind_passes {k : Fin 18} {e : Events} (h : e.kept[k] = none ∨ e.mask.getLsbD k.val = true) :
    unmaskKind tag offset k e = e := by
  unfold unmaskKind
  rcases h with empty | masked
  · rw [empty]
  · split
    · rfl
    · rw [and_one_shiftLeft_ne_zero, if_pos masked]

/-- R174: what becomes of a kind by its own turn. -/
theorem unmaskKind_cases (k : Fin 18) (e : Events) :
    unmaskKind tag offset k e = e ∧ (e.kept[k] = none ∨ e.mask.getLsbD k.val = true) ∨
      ∃ r, e.kept[k] = some r ∧ e.mask.getLsbD k.val = false ∧
        unmaskKind tag offset k e = offerRecord tag offset r { e with kept := e.kept.set k none } := by
  rcases kept : e.kept[k] with _ | r
  · exact .inl ⟨unmaskKind_passes tag offset (.inl kept), .inl rfl⟩
  · cases free : e.mask.getLsbD k.val
    · exact .inr ⟨r, rfl, rfl, unmaskKind_offers tag offset kept free⟩
    · exact .inl ⟨unmaskKind_passes tag offset (.inr free), .inr rfl⟩

theorem unmaskKind_mask (k : Fin 18) (e : Events) : (unmaskKind tag offset k e).mask = e.mask := by
  rcases unmaskKind_cases tag offset k e with ⟨same, -⟩ | ⟨r, -, -, offered⟩
  · rw [same]
  · rw [offered, offerRecord_mask]

/-- R174: EVENTS_LOST, where it is masked, is the one kind that can gain a record. -/
theorem unmaskKind_kept (k : Fin 18) {j : Fin 18} {e : Events} (h : j ≠ 15 ∨ e.mask.getLsbD j.val = false) :
    (unmaskKind tag offset k e).kept[j] = if j = k ∧ e.mask.getLsbD j.val = false then none else e.kept[j] := by
  rcases unmaskKind_cases tag offset k e with ⟨same, pass⟩ | ⟨r, -, free, offered⟩
  · rw [same]
    split
    · next taken =>
      obtain ⟨rfl, free⟩ := taken
      simpa [free] using pass
    · rfl
  · have taken : (e.kept.set k none)[j] = if j = k ∧ e.mask.getLsbD j.val = false then none else e.kept[j] := by
      rw [kept_set]
      by_cases same : j = k
      · rw [if_pos same, if_pos ⟨same, same ▸ free⟩]
      · rw [if_neg same, if_neg fun both => same both.1]
    rw [offered, ← taken]
    rcases offerRecord_kept tag offset r { e with kept := e.kept.set k none } j with same | ⟨rfl, masked, -⟩
    · exact same
    · exact absurd (masked.symm.trans (h.resolve_left fun other => other rfl)) (by decide)

/-- R174: the kinds taken in turn, lowest code first. -/
def unmaskAll (ks : List (Fin 18)) (e : Events) : Events := ks.foldl (fun a k => unmaskKind tag offset k a) e

theorem applyMask_eq (mask : BitVec 32) (e : Events) : applyMask tag offset mask e =
    unmaskAll tag offset (List.finRange 18) { e with mask := mask &&& ~~~0xFFFD6000#32 } := rfl

/-- R174: after its turn a kind waits no more. -/
theorem EventsSound.unmaskKind {k : Fin 18} {ks : List (Fin 18)} {e : Events} (h : EventsSound (k :: ks) e) :
    EventsSound ks (unmaskKind tag offset k e) := by
  obtain ⟨bound, ignored, pending⟩ := h
  rcases unmaskKind_cases tag offset k e with ⟨same, pass⟩ | ⟨r, -, -, offered⟩
  · rw [same]
    refine ⟨bound, ignored, fun j q hq => ⟨(pending j q hq).1, ?_⟩⟩
    rcases (pending j q hq).2 with masked | waits
    · exact .inl masked
    rcases List.mem_cons.1 waits with rfl | later
    · exact .inl (pass.resolve_left (by simp [hq]))
    · exact .inr later
  · rw [offered]
    refine EventsSound.offerRecord (e := { e with kept := e.kept.set k none }) ⟨bound, ignored, fun j q hq => ?_⟩ ..
    rw [kept_set] at hq
    split at hq
    · cases hq
    · next other => exact ⟨(pending j q hq).1, by simpa [other] using (pending j q hq).2⟩

theorem EventsSound.unmaskAll {ks : List (Fin 18)} {e : Events} (h : EventsSound ks e) :
    EventsSound [] (unmaskAll tag offset ks e) := by
  induction ks generalizing e with
  | nil => exact h
  | cons k ks ih => exact ih (h.unmaskKind tag offset)

/-- R174: under a new mask every kind has its turn. -/
theorem EventsSound.applyMask {e : Events} (h : EventsSound [] e) (mask : BitVec 32) :
    EventsSound [] (applyMask tag offset mask e) := by
  rw [applyMask_eq]
  refine EventsSound.unmaskAll tag offset ⟨h.bound, ?_, fun k r hr => ?_⟩
  · rw [BitVec.and_assoc, show ~~~0xFFFD6000#32 &&& 0xFFFD6000#32 = 0#32 by decide, BitVec.and_zero]
    rfl
  · exact ⟨(h.pending k r hr).1, .inr (List.mem_finRange k)⟩

theorem unmaskAll_mask (ks : List (Fin 18)) (e : Events) : (unmaskAll tag offset ks e).mask = e.mask := by
  induction ks generalizing e with
  | nil => rfl
  | cons k ks ih => exact (ih _).trans (unmaskKind_mask ..)

/-- R174: the unmasked kinds among those taken leave the pending set, and the others keep their records. -/
theorem unmaskAll_kept (ks : List (Fin 18)) {j : Fin 18} {e : Events} (h : j ≠ 15 ∨ e.mask.getLsbD j.val = false) :
    (unmaskAll tag offset ks e).kept[j] = if j ∈ ks ∧ e.mask.getLsbD j.val = false then none else e.kept[j] := by
  induction ks generalizing e with
  | nil => simp [unmaskAll]
  | cons k ks ih =>
    have rest := ih (e := unmaskKind tag offset k e) (by rwa [unmaskKind_mask])
    rw [unmaskKind_mask, unmaskKind_kept tag offset k h] at rest
    refine rest.trans ?_
    rw [← ite_or]
    exact if_congr (by rw [List.mem_cons, or_and_right, or_comm]) rfl rfl

/-- R172, R174: the record with which a kind of a pending set leaves it. -/
def leavingRecord (e : Events) (k : Fin 18) : Option EventRecord :=
  if e.mask.getLsbD k.val then none else e.kept[k]

/-- R174: a kind's turn leaves the records of the others that are unmasked. -/
theorem leavingRecord_unmaskKind {k j : Fin 18} (other : j ≠ k) (e : Events) :
    leavingRecord (unmaskKind tag offset k e) j = leavingRecord e j := by
  unfold leavingRecord
  rw [unmaskKind_mask]
  split
  · rfl
  · next free =>
    rw [unmaskKind_kept tag offset k (.inr (by simpa using free)), if_neg fun both => other both.1]

/-- R172: with no record lost before, a record that finds room takes the newest place. -/
theorem offerRecord_room {r : EventRecord} {e : Events} (unlost : e.lost = 0) (room : e.queue.length < 32) :
    offerRecord tag offset r e = { e with queue := e.queue ++ [r] } := by
  simp [offerRecord, Config.queueMax, unlost, placeRecord, room, Nat.not_le.2 room]

/-- R174: with no record lost before and room for it, a leaving record joins the queue. -/
theorem unmaskKind_room {k : Fin 18} {e : Events} (unlost : e.lost = 0)
    (room : e.queue.length + (leavingRecord e k).toList.length ≤ 32) :
    (unmaskKind tag offset k e).queue = e.queue ++ (leavingRecord e k).toList ∧
      (unmaskKind tag offset k e).seen = e.seen ∧ (unmaskKind tag offset k e).lost = 0 := by
  rcases unmaskKind_cases tag offset k e with ⟨same, pass⟩ | ⟨r, kept, free, offered⟩
  · have stays : leavingRecord e k = none := by
      rcases pass with empty | masked
      · rw [leavingRecord, empty, ite_self]
      · rw [leavingRecord, if_pos masked]
    rw [same, stays]
    exact ⟨(List.append_nil _).symm, rfl, unlost⟩
  · have leaves : leavingRecord e k = some r := by rw [leavingRecord, free, kept]; rfl
    rw [leaves, Option.toList_some, List.length_singleton] at room
    rw [offered, leaves, offerRecord_room tag offset (e := { e with kept := e.kept.set k none }) unlost room]
    exact ⟨rfl, rfl, unlost⟩

/-- R174: with no record lost before and room for them, the leaving records join the queue in turn. -/
theorem unmaskAll_room {ks : List (Fin 18)} (distinct : ks.Nodup) {e : Events} (unlost : e.lost = 0)
    (room : e.queue.length + (ks.filterMap (leavingRecord e)).length ≤ 32) :
    (unmaskAll tag offset ks e).queue = e.queue ++ ks.filterMap (leavingRecord e) ∧
      (unmaskAll tag offset ks e).seen = e.seen ∧ (unmaskAll tag offset ks e).lost = 0 := by
  induction ks generalizing e with
  | nil => exact ⟨(List.append_nil _).symm, rfl, unlost⟩
  | cons k ks ih =>
    obtain ⟨fresh, distinct⟩ := List.nodup_cons.1 distinct
    have parts : (k :: ks).filterMap (leavingRecord e) =
        (leavingRecord e k).toList ++ ks.filterMap (leavingRecord e) := by
      rw [List.filterMap_cons]
      cases leavingRecord e k <;> rfl
    have rest : ks.filterMap (leavingRecord (unmaskKind tag offset k e)) = ks.filterMap (leavingRecord e) :=
      List.filterMap_congr fun j hj =>
        leavingRecord_unmaskKind tag offset (fun same => fresh (by rwa [← same])) e
    rw [parts, List.length_append] at room
    obtain ⟨queue, seen, lost⟩ := unmaskKind_room tag offset unlost (k := k) (by omega)
    obtain ⟨queue', seen', lost'⟩ := ih distinct lost (by rw [rest, queue, List.length_append]; omega)
    refine ⟨?_, seen'.trans seen, lost'⟩
    rw [parts, ← List.append_assoc, ← queue, ← rest]
    exact queue'

/-! ### SET_EVENT_MASK (R159, R174) -/

theorem applyMask_mask (mask : BitVec 32) (e : Events) :
    (applyMask tag offset mask e).mask = mask &&& ~~~0xFFFD6000#32 := unmaskAll_mask tag offset _ _

/-- R174: the kinds that a new mask leaves unmasked leave the pending set, and the others keep their records. -/
theorem applyMask_kept {mask : BitVec 32} {e : Events} {k : Fin 18}
    (h : k ≠ 15 ∨ (mask &&& ~~~0xFFFD6000#32).getLsbD k.val = false) : (applyMask tag offset mask e).kept[k] =
      if (mask &&& ~~~0xFFFD6000#32).getLsbD k.val = false then none else e.kept[k] := by
  have turns := unmaskAll_kept tag offset (List.finRange 18) (e := { e with mask := mask &&& ~~~0xFFFD6000#32 }) h
  exact turns.trans (if_congr (and_iff_right (List.mem_finRange k)) rfl rfl)

end

/-- The event queue's state replaced, and nothing else. -/
theorem setEvents_frame (s : State) (e : Events) : s.setEvents e = { s with events := (s.setEvents e).events } := rfl

/-- R174: SET_EVENT_MASK where it is executed. -/
theorem exec_setEventMask {s : State} (ready : Ready s) {lo hi : Word} {mask : BitVec 32} (words : mask = hi ++ lo) :
    ∃ t, exec (.setEventMask [lo, hi]) s = .next t ∧
      t = { afterReply s 16 [if mask &&& 0xFFFD6000#32 = 0 then 0 else 1] with events := t.events } ∧
      t.events = applyMask s.film.tag s.film.offset mask s.events := by
  have status (p : Prop) [Decidable p] : statusWord (if p then .ok else .okClamped) 0 = if p then 0 else 1 := by
    split <;> rfl
  have run : runCommand .setEventMask [lo, hi] (endAssembly s) =
      (afterReply s 16 [statusWord (if fromTwo lo hi &&& ignoredMask = 0 then .ok else .okClamped) 0]).setEvents
        (applyMask s.film.tag s.film.offset (fromTwo lo hi) s.events) := rfl
  rw [status, show fromTwo lo hi = mask from words.symm, ignoredMask] at run
  refine ⟨_, (exec_ready (c := .setEventMask) ready (Nat.le_of_ble_eq_true rfl)).trans (congrArg _ run), ?_, ?_⟩
  · exact setEvents_frame ..
  · exact State.setEvents_events ..

/-- Settles O31: the kinds take their turns in the order of their codes, each as `unmaskKind_cases` says. -/
theorem setEventMaskReplaces : Obligations.SetEventMaskReplaces := by
  intro s lo hi ready mask leaving
  obtain ⟨t, executed, frame, events⟩ := exec_setEventMask ready (mask := mask) rfl
  refine ⟨t, executed, frame, ?_⟩
  simp only [events, applyMask_mask]
  refine ⟨trivial, fun k free => ?_, fun k held other => ?_, fun unlost room => ?_⟩
  · exact (applyMask_kept s.film.tag s.film.offset (.inr free)).trans (if_pos free)
  · exact (applyMask_kept s.film.tag s.film.offset (.inl other)).trans (if_neg (by rw [held]; decide))
  · exact unmaskAll_room s.film.tag s.film.offset (List.nodup_finRange 18)
      (e := { s.events with mask := mask &&& ~~~0xFFFD6000#32 }) unlost room

end Sys2Proof.ControlMessages
end

section
/-! The command unit (R156 to R159, R162, R166 to R168): what it does with each control word, what closes a message, and
the payloads that a command accepts. -/

namespace Sys2Proof.ControlMessages

open Sys2Proof Sys2Proof.Machine Sys2Proof.Safety Sys2Proof.SampleLink

/-! ### Words written out from the layouts (R166 to R168) -/

/-- R168: the code of a command and a payload spell the command's step. -/
theorem decodeMessage_code (c : CmdCode) (p : List Word) : decodeMessage c.code p = some (instrOfCommand c p) := by
  rw [decodeMessage, cmdOf_code, Option.map_some]

theorem code_between (c : CmdCode) : 1 ≤ c.code.toNat ∧ c.code.toNat ≤ 21 := by
  cases c <;> decide

/-- R168: codes 0 and 22 to 255 are not commands. -/
theorem cmdOf_eq_none {code : BitVec 8} (h : code = 0 ∨ 22 ≤ code.toNat) : cmdOf code = none := by
  rw [cmdOf, List.find?_eq_none]
  intro c _ same
  obtain ⟨low, high⟩ := code_between c
  rw [eq_of_beq same] at low high
  rcases h with rfl | above
  · exact absurd low (by decide)
  · omega

/-- R168: codes 1 to 21 are commands. -/
theorem exists_code {code : BitVec 8} (low : 1 ≤ code.toNat) (high : code.toNat ≤ 21) :
    ∃ c : CmdCode, c.code = code := by
  have numbered : ∀ n : Fin 22, 1 ≤ n.val → ∃ c ∈ CmdCode.list, c.code.toNat = n.val := by decide
  obtain ⟨c, -, same⟩ := numbered ⟨code.toNat, by omega⟩ low
  exact ⟨c, BitVec.eq_of_toNat_eq same⟩

/-- Settles O4: the written frame is `formFrame` of its fields, and the codes are read by `cmdOf`. -/
theorem writtenWordsDecode : Obligations.WrittenWordsDecode := by
  have written : (0b10110001#8 ++ 0#1 ++ 0#3 ++ 0#96 ++ 0b01#2 ++ 0b0000000100000001#16 ++ 1#1 : BitVec 127) =
      formFrame ⟨.idle, 0, Quad.all 0, .head, 257⟩ := by rfl
  refine ⟨written ▸ parseFrame_formFrame _, rfl, decodeMessage_code .readLog [4], rfl,
    decodeMessage_code .queryStatus [0], rfl, decodeMessage_code .cancelSwap [], rfl, ?_, ?_⟩
  · rw [decodeMessage, cmdOf_eq_none (.inl rfl), Option.map_none]
  · rw [decodeMessage, cmdOf_eq_none (.inr (by decide)), Option.map_none]

/-! ### Counters (R162) -/

/-- Settles O18: the two commands where they are executed. -/
theorem countersReadAndCleared : Obligations.CountersReadAndCleared := fun _ ready =>
  ⟨exec_ready (c := .readCounters) ready (Nat.zero_le 63), exec_ready (c := .clearCounters) ready (Nat.zero_le 63)⟩

/-! ### Payloads that a command does not accept (R159, R168) -/

/-- R142: a WRITE_TABLE payload of another length names no table or carries another number of words. -/
theorem cmdWriteTable_wrongLength {p : List Word} (h : lengthAccepted .writeTable p = false) (s : State) :
    cmdWriteTable p s = reply .writeTable .badParam [] s := by
  cases p with
  | nil => rfl
  | cons head rest =>
    simp only [lengthAccepted, List.length_cons, Bool.or_eq_false_iff, beq_eq_false_iff_ne] at h
    unfold cmdWriteTable
    dsimp only
    split
    · rfl
    · next table _ _ =>
      have count : fieldCount table = 14 ∨ fieldCount table = 16 := by cases table <;> decide
      rw [if_pos (by omega)]

/-- R71, R168: a LOAD_TEMPLATE payload of another length does not carry the bins that its parameter word announces. -/
theorem cmdLoadTemplate_wrongLength {p : List Word} (h : lengthAccepted .loadTemplate p = false) (s : State) :
    cmdLoadTemplate p s = reply .loadTemplate .badParam [] s := by
  cases p with
  | nil => rfl
  | cons w bins =>
    have other : bins.length ≠ packedLength (templateParam w).count := by
      simp only [lengthAccepted, beq_eq_false_iff_ne] at h
      have last (n : Nat) : (if n % 2 = 1 then 2 else 0) = 2 * (n % 2) := by split <;> omega
      rwa [packedLength, last]
    have unsound : loadTemplateSound (templateParam w) bins = false :=
      decide_eq_false fun ⟨_, _, _, same⟩ => other same
    unfold cmdLoadTemplate
    dsimp only
    rw [unsound]
    rfl

/-- R159: a command whose payload has a length that it does not accept answers BAD_PARAM and does nothing else. -/
theorem runCommand_wrongLength {c : CmdCode} {p : List Word} (h : lengthAccepted c p = false) (s : State) :
    runCommand c p s = reply c .badParam [] s := by
  cases c with
  | writeTable => exact cmdWriteTable_wrongLength h s
  | loadTemplate => exact cmdLoadTemplate_wrongLength h s
  | readCounters | clearCounters | cancelSwap | startStream | stopStream | resume | readEventSummary | ackFault
  | softReset =>
    cases p with
    | nil => cases h
    | cons => rfl
  | queryStatus | swapBanks | forceDefect | readLog | readTemplate | storeProfile | recallProfile =>
    rcases p with _ | ⟨w, _ | ⟨v, p⟩⟩
    · rfl
    · cases h
    · rfl
  | readTable | setFrameTag | setEventMask =>
    rcases p with _ | ⟨w, _ | ⟨v, _ | ⟨u, p⟩⟩⟩
    · rfl
    · rfl
    · cases h
    · rfl

/-- Settles O37: an executed command refuses such a payload by `runCommand_wrongLength`. -/
theorem wrongLengthIsBadParam : Obligations.WrongLengthIsBadParam := by
  intro c payload s ready fits wrong
  rw [exec_ready ready fits, runCommand_wrongLength wrong]
  rfl

/-! ### The close of a message (R158) -/

section

variable {a : Assembly} {sumOk : Bool} {s : State}

/-- R158: with two replies held a message is discarded and counted. -/
theorem closeMessage_full (full : 2 ≤ s.cmd.replies.length) : closeMessage a sumOk s = countReplyOverrun s :=
  if_pos full

variable (room : s.cmd.replies.length < 2)

include room

/-- R158: a message with a BAD slot in it is refused with LINK_ERROR. -/
theorem closeMessage_corrupt (corrupt : a.corrupt = true) :
    closeMessage a sumOk s = refuse a.code .linkError (countRefused s) :=
  (if_neg (Nat.not_le.2 room)).trans (if_pos corrupt)

variable (intact : a.corrupt = false)

include intact

theorem closeMessage_badLength (unsound : ¬ (a.length.toNat ≤ 63 ∧ a.count = a.length.toNat)) :
    closeMessage a sumOk s = refuse a.code .badLength (countRefused s) := by
  have wrong : a.length.toNat > Config.bodyMax ∨ a.count ≠ a.length.toNat := by rw [Config.bodyMax]; omega
  simp only [closeMessage, Config.replyMax, ge_iff_le, Nat.not_le.2 room, intact, Bool.false_eq_true, if_false,
    if_pos wrong]

variable (sound : a.length.toNat ≤ 63 ∧ a.count = a.length.toNat)

include sound

theorem closeMessage_badCheck : closeMessage a false s = refuse a.code .badCheck (countRefused s) := by
  simp [closeMessage, Config.replyMax, Nat.not_le.2 room, intact, Config.bodyMax, Nat.not_lt.2 sound.1, sound.2]

/-- R158: a sound message with a code that is no command's. -/
theorem closeMessage_badCommand (unknown : cmdOf a.code = none) :
    closeMessage a true s = refuse a.code .badCommand s := by
  simp [closeMessage, Config.replyMax, Nat.not_le.2 room, intact, Config.bodyMax, Nat.not_lt.2 sound.1, sound.2,
    unknown]

/-- R158: a sound message of a command is refused during the boot recall. -/
theorem closeMessage_busy {c : CmdCode} (known : cmdOf a.code = some c) (boots : s.booting = true) :
    closeMessage a true s = refuse a.code .busy s := by
  simp [closeMessage, Config.replyMax, Nat.not_le.2 room, intact, Config.bodyMax, Nat.not_lt.2 sound.1, sound.2, known,
    boots]

/-- R158, R159: a sound message of a command is executed. -/
theorem closeMessage_runs {c : CmdCode} (known : cmdOf a.code = some c) (serves : s.booting = false) :
    closeMessage a true s = runCommand c a.words s := by
  simp [closeMessage, Config.replyMax, Nat.not_le.2 room, intact, Config.bodyMax, Nat.not_lt.2 sound.1, sound.2, known,
    serves]

end

/-! ### Control words (R157) -/

/-- The part with a message in assembly. -/
def collecting (a : Assembly) (s : State) : State := s.setCmd ⟨some a, s.cmd.replies⟩

section

variable {s : State} {f : LinkFrame}

theorem takeControl_head (kind : f.kind = .head) (idle : s.cmd.assembly = none) :
    takeControl (some f) s = collecting (beginAssembly f.data) s := by
  simp only [takeControl, kind, takeHead, idle]
  rfl

theorem takeControl_stray (kind : f.kind = .body ∨ f.kind = .check) (idle : s.cmd.assembly = none) :
    takeControl (some f) s = countStray s := by
  rcases kind with kind | kind
  · simp only [takeControl, kind, takeBody, idle]
  · simp only [takeControl, kind, takeCheck, idle]

variable {a : Assembly}

theorem takeControl_supersedes (kind : f.kind = .head) (begun : s.cmd.assembly = some a) :
    takeControl (some f) s = collecting (beginAssembly f.data) (countSuperseded s) := by
  simp only [takeControl, kind, takeHead, begun]
  rfl

theorem takeControl_body (kind : f.kind = .body) (begun : s.cmd.assembly = some a) :
    takeControl (some f) s = collecting (addBody f.data a) s := by
  simp only [takeControl, kind, takeBody, begun]
  rfl

theorem takeControl_check (kind : f.kind = .check) (begun : s.cmd.assembly = some a) :
    takeControl (some f) s = closeMessage a (a.sum == f.data) (endAssembly s) := by
  simp only [takeControl, kind, takeCheck, begun]

theorem takeControl_bad_idle (idle : s.cmd.assembly = none) : takeControl none s = s := by
  simp only [takeControl, takeBad, idle]

theorem takeControl_bad (begun : s.cmd.assembly = some a) :
    takeControl none s = collecting { a with corrupt := true } s := by
  simp only [takeControl, takeBad, begun]
  rfl

end

/-- Settles O3: each clause is the branch of `takeControl`, or of `closeMessage`, that its hypotheses select. -/
theorem framingAndItsRefusals : Obligations.FramingAndItsRefusals := by
  intro s f _ _
  refine ⟨fun kind => takeControl_none kind s, fun idle => ?_, fun a begun => ?_⟩
  · exact ⟨takeControl_bad_idle idle, fun kind => takeControl_head kind idle,
      fun kind => takeControl_stray kind idle⟩
  refine ⟨takeControl_bad begun, fun kind => takeControl_supersedes kind begun,
    fun kind => takeControl_body kind begun, fun kind => ?_⟩
  intro sound answer refused
  have closes := takeControl_check kind begun
  refine ⟨fun full => closes.trans (closeMessage_full full),
    fun room corrupt => closes.trans (closeMessage_corrupt room corrupt),
    fun room intact unsound => closes.trans (closeMessage_badLength room intact unsound),
    fun room intact whole differs => ?_, fun room intact whole same => ?_⟩
  · rw [closes, beq_eq_false_iff_ne.2 differs.symm]
    exact closeMessage_badCheck room intact whole
  · rw [beq_iff_eq.2 same.symm] at closes
    refine ⟨fun unknown => ?_, fun low high boots => ?_, fun c code serves => ?_⟩
    · exact closes.trans (closeMessage_badCommand room intact whole (cmdOf_eq_none unknown))
    · obtain ⟨c, code⟩ := exists_code low high
      exact closes.trans (closeMessage_busy room intact whole (code ▸ cmdOf_code c) boots)
    · have known : cmdOf a.code = some c := by rw [code, cmdOf_code]
      exact closes.trans (closeMessage_runs (s := endAssembly s) room intact whole known serves)

/-! ### The words of a message, one by one (R156) -/

/-- R157: the message in assembly once a payload has been added to it. -/
def withPayload (a : Assembly) (p : List Word) : Assembly :=
  { a with sum := p.foldl (fun x w => x + w) a.sum, count := a.count + p.length, words := a.words ++ p }

theorem withPayload_cons {a : Assembly} {w : Word} {p : List Word} (fits : a.count + (w :: p).length ≤ 63) :
    withPayload (addBody w a) p = withPayload a (w :: p) := by
  rw [List.length_cons] at fits
  have count : min 64 (a.count + 1) = a.count + 1 := by omega
  have stored : a.count < Config.bodyMax := by rw [Config.bodyMax]; omega
  simp only [withPayload, addBody, count, stored, if_true, List.foldl_cons, List.length_cons, List.append_assoc,
    List.singleton_append, Nat.add_assoc, Nat.add_comm 1]

/-- R157: the BODY words of a payload join the message in assembly. -/
theorem takeControl_payload (p : List Word) {a : Assembly} (fits : a.count + p.length ≤ 63) (s : State) :
    (p.map (controlFrame .body)).foldl (fun t f => takeControl (some f) t) (collecting a s) =
      collecting (withPayload a p) s := by
  induction p generalizing a with
  | nil => simp [withPayload]
  | cons w p ih =>
    have room : (addBody w a).count + p.length ≤ 63 := by
      rw [List.length_cons] at fits
      have count : (addBody w a).count ≤ a.count + 1 := Nat.min_le_right ..
      omega
    rw [List.map_cons, List.foldl_cons, takeControl_body (a := a) rfl rfl, ← withPayload_cons fits]
    exact ih room

/-- R167: the code and the length that a HEAD gives. -/
theorem beginAssembly_head (code len : BitVec 8) :
    beginAssembly (code ++ len) = ⟨code, len, 0, [], code ++ len, false⟩ := by
  have high : headCode (code ++ len) = code := BitVec.extractLsb'_append_eq_left
  have low : headLength (code ++ len) = len := BitVec.extractLsb'_append_eq_right
  rw [beginAssembly, high, low]

/-- R157: the words of a command's message gather the message of its row. -/
theorem withPayload_head (c : CmdCode) (p : List Word) :
    let head : Word := c.code ++ BitVec.ofNat 8 p.length
    withPayload (beginAssembly head) p = { soundMessage c p with sum := p.foldl (fun x w => x + w) head } := by
  simp only [withPayload, beginAssembly_head, soundMessage, Nat.zero_add, List.nil_append]

/-- R158: beside the test of its CHECK word, the close of a message does not look at its sum. -/
theorem closeMessage_sum (a : Assembly) (x : Word) (sumOk : Bool) (s : State) :
    closeMessage { a with sum := x } sumOk s = closeMessage a sumOk s := rfl

/-- Settles O5: the words gather the message whose close is the command's row. -/
theorem messageReachesItsCommand : Obligations.MessageReachesItsCommand := by
  intro c payload s live idle fits
  let head : Word := c.code ++ BitVec.ofNat 8 payload.length
  have gathered : (payload.map (controlFrame .body)).foldl (fun t f => takeControl (some f) t)
      (collecting (beginAssembly head) s) = collecting (withPayload (beginAssembly head) payload) s :=
    takeControl_payload payload (by rwa [beginAssembly, Nat.zero_add]) s
  have frames : (messageFrames c payload).foldl (fun t f => takeControl (some f) t) s =
      takeControl (some (controlFrame .check (payload.foldl (fun x w => x + w) head)))
        (collecting (withPayload (beginAssembly head) payload) s) := by
    simp only [messageFrames, List.foldl_append, List.foldl_cons, List.foldl_nil]
    rw [takeControl_head rfl idle]
    exact congrArg _ gathered
  rw [exec_command, commandStep, if_pos live, frames, takeControl_check rfl rfl, withPayload_head, controlFrame,
    beq_self_eq_true, closeMessage_sum]
  rfl

end Sys2Proof.ControlMessages
end

section
/-! The command unit, the event queue and the fault unit (R157, R172, R176 to R178): what the stages leave of them. -/

namespace Sys2Proof.ControlMessages

open Sys2Proof Sys2Proof.Machine Sys2Proof.Safety Sys2Proof.SampleLink Sys2Proof.StreamRing Sys2Proof.NoiseTemplates
  Sys2Proof.ClickDetection

/-! ### What stands -/

/-- The command unit stands, a sound event queue stays sound, and the double-fault indication goes on going with the
latch, which holds. -/
structure MessagesStand (s t : State) : Prop where
  cmd : t.cmd = s.cmd
  events : EventsSound [] s.events → EventsSound [] t.events
  fault : FaultKept s → FaultKept t
  latched : s.fault.mode = .latched → t.fault.mode = .latched

namespace MessagesStand

variable {s t u : State}

theorem refl (s : State) : MessagesStand s s := ⟨rfl, id, id, id⟩

theorem trans (a : MessagesStand s t) (b : MessagesStand t u) : MessagesStand s u :=
  ⟨b.cmd.trans a.cmd, b.events ∘ a.events, b.fault ∘ a.fault, b.latched ∘ a.latched⟩

theorem ite {p : Prop} [Decidable p] (a : MessagesStand s t) (b : MessagesStand s u) :
    MessagesStand s (if p then t else u) := by
  split <;> assumption

/-- What the reads, the faults and the closes leave. -/
theorem of_inner (h : Inner s t) : MessagesStand s t :=
  ⟨h.cmd, EventsSound.of_raisedAfter h.raised, h.fault, h.latched⟩

/-- An operation on other units. -/
theorem of_units (h : (t.cmd, t.events, t.fault) = (s.cmd, s.events, s.fault)) : MessagesStand s t := by
  simp only [Prod.mk.injEq] at h
  obtain ⟨cmd, events, fault⟩ := h
  exact ⟨cmd, fun k => by rwa [events], fun k => by rwa [FaultKept, fault], fun k => by rwa [fault]⟩

section

variable (h : MessagesStand s t)

include h

theorem note (b : BankId) (r : FieldRef) : MessagesStand s (note b r t) := h.trans (.of_inner (inner_note ..))

theorem noteActive (r : FieldRef) : MessagesStand s (noteActive r t) := h.note ..

theorem raise (k : EventKind) (ch : Option Channel) (p : Option (BitVec 32)) : MessagesStand s (raise k ch p t) :=
  h.trans (.of_inner (inner_raise ..))

theorem setEvents {e : Events} (sound : EventsSound [] t.events → EventsSound [] e) :
    MessagesStand s (t.setEvents e) := h.trans ⟨rfl, sound, id, id⟩

theorem setLink (x : Link) : MessagesStand s (t.setLink x) := h.trans (.of_units rfl)

theorem setStream (x : Stream) : MessagesStand s (t.setStream x) := h.trans (.of_units rfl)

theorem setRing (x : List FrameRecord) : MessagesStand s (t.setRing x) := h.trans (.of_units rfl)

theorem setFilm (x : Film) : MessagesStand s (t.setFilm x) := h.trans (.of_units rfl)

theorem setTracker (x : Tracker) : MessagesStand s (t.setTracker x) := h.trans (.of_units rfl)

theorem setCanc (x : Canceller) : MessagesStand s (t.setCanc x) := h.trans (.of_units rfl)

theorem setDet (x : Quad Detector) : MessagesStand s (t.setDet x) := h.trans (.of_units rfl)

theorem setLastOut (x : Quad Sample) : MessagesStand s (t.setLastOut x) := h.trans (.of_units rfl)

theorem setHiss (x : Quad Hiss) : MessagesStand s (t.setHiss x) := h.trans (.of_units rfl)

theorem setTables (x : Tables) : MessagesStand s (t.setTables x) := h.trans (.of_units rfl)

theorem setStore (x : ProfileStore) : MessagesStand s (t.setStore x) := h.trans (.of_units rfl)

theorem setCounters (x : Counters) : MessagesStand s (t.setCounters x) := h.trans (.of_units rfl)

theorem setOut (x : Output) : MessagesStand s (t.setOut x) := h.trans (.of_units rfl)

end

end MessagesStand

theorem messagesStand_eachChannel {f : Channel → State → State} (h : ∀ c s, MessagesStand s (f c s)) (s : State) :
    MessagesStand s (eachChannel f s) := (((h _ _).trans (h _ _)).trans (h _ _)).trans (h _ _)

section

variable (s : State)

/-! ### The templates (R59 to R67, R70, R71) -/

theorem messagesStand_readBin (ch : Channel) (e : Engine) (b : BitVec 6) : MessagesStand s (readBin ch e b s) :=
  .ite (.refl s) (((MessagesStand.refl s).setCanc _).raise ..)

theorem messagesStand_subtractAll (processed accepted : Bool) (x : Quad Sample) :
    MessagesStand s (subtractAll processed accepted x s) := by
  have marks (t : State) (ch : Channel) (v : Sample) (pb mb : BitVec 6) :
      MessagesStand t (subtractMarks ch v pb mb t) := by
    refine MessagesStand.trans ?_ (.ite (.setCounters (.refl _) _) (.refl _))
    refine MessagesStand.trans ?_ (.ite (messagesStand_readBin ..) (.refl _))
    exact (((MessagesStand.refl t).note ..).note ..).trans (.ite (messagesStand_readBin ..) (.refl _))
  exact messagesStand_eachChannel (fun _ _ => .ite (marks ..) (.refl _)) s

/-- R66, R67: an adaptation can raise a fault, which reaches the fault unit. -/
theorem messagesStand_adaptRecord (r : FrameRecord) (mask : Nat) (checked : Quad Sample) (hp hm : Quad HoldSet) :
    MessagesStand s (adaptRecord r mask checked hp hm s) := by
  have bin (t : State) (ch : Channel) (e : Engine) (b : BitVec 6) (v : Sample) :
      MessagesStand t (adaptBin r.bank ch e b v t) := by
    refine MessagesStand.trans ?_ (.ite (.of_inner (inner_takeFault ..)) (.refl _))
    exact (((MessagesStand.refl t).note ..).trans (messagesStand_readBin ..)).setCanc _
  have engine (active : Bool) (hold : HoldSet) (failed : Bool) (v : Sample) (ch : Channel) (e : Engine) (t : State) :
      MessagesStand t (adaptEngine r active hold failed v ch e t) := .ite (bin ..) (.refl t)
  exact messagesStand_eachChannel (fun _ _ => (engine ..).trans (engine ..)) s

theorem messagesStand_readTemplateBins (p : TemplateParam) : MessagesStand s (readTemplateBins p s) := by
  unfold readTemplateBins
  generalize List.range (readTemplateCount p) = bins
  induction bins generalizing s with
  | nil => exact .refl s
  | cons i bins ih => exact (messagesStand_readBin s ..).trans (ih _)

/-! ### The tracker, Pm and bank exchanges (R44 to R54, R146) -/

theorem messagesStand_recomputeMains : MessagesStand s (recomputeMains s) :=
  (MessagesStand.of_inner (inner_noteMains s)).setCanc _

theorem messagesStand_recomputeMaxLen : MessagesStand s (recomputeMaxLen s) :=
  (messagesStand_eachChannel (fun _ t => ((MessagesStand.refl t).noteActive _).noteActive _) s).setDet _

theorem messagesStand_exchangeBanks : MessagesStand s (exchangeBanks s) :=
  ((((MessagesStand.refl s).setTables _).trans (messagesStand_recomputeMains _)).trans
    (messagesStand_recomputeMaxLen _)).raise ..

theorem messagesStand_exchangeAt (t : Trigger) : MessagesStand s (exchangeAt t s) :=
  .ite (messagesStand_exchangeBanks s) (.refl s)

theorem messagesStand_perfMissStep : MessagesStand s (perfMissStep s) :=
  .ite ((((MessagesStand.refl s).noteActive _).setTracker _).trans (.ite (.raise (.refl _) ..) (.refl _))) (.refl s)

theorem messagesStand_takePerf : MessagesStand s (takePerf s) := by
  have tracked := (MessagesStand.refl s).setTracker
  have locked : MessagesStand s (lockedPerf s) :=
    .ite ((tracked _).trans (.ite (.refl _) (messagesStand_recomputeMains _)))
      (.ite (.setCounters (.refl s) _) (.refl s))
  unfold takePerf
  split
  · exact .ite (tracked _) (.ite (((tracked _).raise ..).trans (messagesStand_recomputeMains _)) (tracked _))
  · exact locked
  · exact locked
  · exact tracked _

theorem messagesStand_takeRecord (m : Marker) : MessagesStand s (takeRecord m s) :=
  ((MessagesStand.refl s).setTracker _).trans (.ite (messagesStand_takePerf _) (messagesStand_perfMissStep _))

/-! ### Markers (R36, R38, R41) -/

theorem messagesStand_deliverFrame : MessagesStand s (deliverFrame s) :=
  (messagesStand_exchangeAt ..).trans (.ite (.raise (.setFilm (.refl _) _) ..) (.setFilm (.refl _) _))

theorem messagesStand_deliverSplice : MessagesStand s (deliverSplice s) := by
  have loaded (t : State) (mask len : Nat) : MessagesStand t (loadSpliceCounts mask len t) := .setDet (.refl t) _
  exact (((((((messagesStand_exchangeAt s .nextSplice).noteActive _).setFilm _).noteActive _).noteActive _).trans
    (loaded ..)).setTracker _).raise ..

/-- R35: the delivery of a marker. -/
theorem messagesStand_deliverMarker (m : Marker) : MessagesStand s (deliverMarker m s) := by
  cases m with
  | none | perf | reelEnd => exact .refl s
  | frame | framePerf => exact messagesStand_deliverFrame s
  | splice => exact messagesStand_deliverSplice s
  | reelStart =>
    have cleared : MessagesStand s (deliverReelStart s) :=
      ((MessagesStand.refl s).noteActive _).trans (.ite (.setFilm (.refl _) _) (.refl _))
    exact cleared

/-! ### The detector (R74 to R91) -/

theorem messagesStand_setDetector (ch : Channel) (d : Detector) : MessagesStand s (setDetector ch d s) :=
  .setDet (.refl s) _

theorem messagesStand_evaluateCentre (ch : Channel) (n : Serial) (vn v1 v2 : Sample) :
    MessagesStand s (evaluateCentre ch n vn v1 v2 s) := by
  rcases inner_evaluateCentre s ch n vn v1 v2 with stands | ⟨u, noted, moved⟩
  · exact .of_inner stands
  · exact ((MessagesStand.of_inner noted).trans (messagesStand_setDetector ..)).trans (.of_inner moved)

theorem messagesStand_watchPosition (ch : Channel) (r : FrameRecord) : MessagesStand s (watchPosition ch r s) := by
  have read : MessagesStand s (valueRead ch r s) := .ite (.refl s) (.of_inner (inner_failedRead ..))
  have centre : MessagesStand (valueRead ch r s) (centreTaken ch r s) := by
    unfold centreTaken
    split
    · exact messagesStand_evaluateCentre ..
    · exact .refl _
  rw [watchPosition_eq]
  exact ((read.trans centre).trans (.of_inner (inner_applyForced ..))).trans
    ((messagesStand_setDetector ..).trans (messagesStand_setDetector ..))

theorem messagesStand_detectChannel (r : FrameRecord) (ch : Channel) : MessagesStand s (detectChannel r ch s) := by
  have noted : MessagesStand s (noteWatched r ch s) :=
    .ite (((MessagesStand.refl s).noteActive _).trans (.ite (.noteActive (.refl _) _) (.refl _))) (.refl s)
  have skipped (t : State) : MessagesStand t (skipPosition ch r t) :=
    (MessagesStand.of_inner (inner_closeContext ..)).trans
      ((messagesStand_setDetector ..).trans (messagesStand_setDetector ..))
  exact noted.trans (.ite (messagesStand_watchPosition ..) (skipped _))

theorem messagesStand_enterState (st : StreamState) : MessagesStand s (enterState st s) :=
  ((MessagesStand.refl s).setStream _).raise ..

theorem messagesStand_enterDraining : MessagesStand s (enterDraining s) := by
  have closed (t : State) : MessagesStand t (drainDetector t) :=
    ((MessagesStand.of_inner (inner_eachChannel (fun ch u => inner_closeContext ch (newestSerial u) u) t)).trans
      (.of_inner (inner_emptyHistories _))).setDet _
  exact (messagesStand_enterState s .draining).trans (closed _)

/-! ### The stream controller (R20 to R31) -/

/-- R30: an admission. -/
theorem messagesStand_admitSlot (m : Marker) (stamp : BitVec 16) (samples : Option (Quad Sample)) :
    MessagesStand s (admitSlot m stamp samples s) := by
  have before : MessagesStand s (beforeRecord samples s) := by
    rw [beforeRecord_eq]
    exact .of_units rfl
  have taken : MessagesStand s (recordTaken m samples s) :=
    (before.trans (messagesStand_takeRecord ..)).noteActive _
  have placed : MessagesStand s (recordPlaced m stamp samples s) :=
    (taken.trans (messagesStand_subtractAll ..)).trans (.of_units rfl)
  have running (t : State) : MessagesStand t (checkRunning t) := .ite (messagesStand_enterState ..) (.refl t)
  have after (t : State) : MessagesStand t (afterAdmission m t) :=
    .ite (((MessagesStand.refl t).noteActive _).trans (.ite (messagesStand_enterDraining _) (running _))) (running t)
  have admitted : MessagesStand s (admitRecord m stamp samples s) := by
    rw [admitRecord_eq]
    exact (placed.trans (messagesStand_eachChannel (fun _ _ => messagesStand_detectChannel ..) _)).trans
      (.of_inner (inner_endAdmission _))
  exact admitted.trans (after _)

/-- R123: the hiss reducer's reads of table memory. -/
theorem messagesStand_hissRecord (r : FrameRecord) (mask : Nat) (checked : Quad Sample) :
    MessagesStand s (hissRecord r mask checked s) := by
  have noted (active failed : Bool) (y : Int) (ch : Channel) (t : State) :
      MessagesStand t (noteHiss r active failed y ch t) := by
    refine .ite (((MessagesStand.refl t).note ..).trans (.ite ?_ (.refl _))) (.refl t)
    exact (((((MessagesStand.refl _).note ..).note ..).note ..).note ..).note ..
  exact (messagesStand_eachChannel (fun _ _ => noted ..) s).setHiss _

theorem messagesStand_retirementEndStep : MessagesStand s (retirementEndStep s) :=
  .ite (.setTables (.refl s) _) (.refl s)

/-- R31: a release. -/
theorem messagesStand_release : MessagesStand s (release s) := by
  rcases hr : s.ring with _ | ⟨r, rest⟩
  · rw [release, hr]
    exact .refl s
  have drained (t : State) : MessagesStand t (checkDrained t) := .ite (messagesStand_enterState ..) (.refl t)
  have left : MessagesStand s (emptied rest s) :=
    (((MessagesStand.refl s).setRing rest).trans (messagesStand_retirementEndStep _)).trans (drained _)
  have marked (t : State) (mask : Nat) : MessagesStand t (releaseMarks r mask t) :=
    messagesStand_eachChannel (fun _ _ => .ite (.raise (.refl _) ..) (.refl _)) t
  have held (t : State) (mask : Nat) : MessagesStand t (noteHolds r mask t) :=
    .ite (messagesStand_eachChannel (fun _ _ => .ite (.note (.note (.refl _) ..) ..) (.refl _)) t) (.refl t)
  have adapts : MessagesStand s (adapted r rest s) :=
    (((left.note ..).trans (marked ..)).trans (held ..)).trans (messagesStand_adaptRecord ..)
  obtain ⟨o, stages⟩ := release_eq hr
  rw [stages]
  exact ((adapts.trans (messagesStand_hissRecord ..)).setOut _).setLastOut _

theorem messagesStand_linkLostStep : MessagesStand s (linkLostStep s) := by
  have gone : MessagesStand s (linkGone s) :=
    ((MessagesStand.refl s).raise .linkLost none none).trans (.of_units rfl)
  by_cases hl : s.link.cond = .good ∧ s.link.badCount = 256
  · rw [linkLostStep_eq hl.1 hl.2]
    exact .ite (gone.trans (messagesStand_enterDraining _)) gone
  · rw [linkLostStep_of_not hl]
    exact .refl s

/-- R20: the start actions. -/
theorem messagesStand_startStreamNow (m : Marker) : MessagesStand s (startStreamNow m s) := by
  have looked (t : State) : MessagesStand t (noteLookahead t) := by
    unfold noteLookahead
    refine (((MessagesStand.refl t).noteActive _).noteActive _).trans (messagesStand_eachChannel (fun ch u => ?_) _)
    exact .ite (.trans (.noteActive (.refl u) _) (.ite (.noteActive (.noteActive (.refl _) _) _) (.refl _))) (.refl u)
  have begun : MessagesStand s (startBegun s) :=
    ((((messagesStand_exchangeAt s _).trans (looked _)).setStream _).setLink _).trans (messagesStand_enterState ..)
  have rested (t : State) (loaded : Nat) : MessagesStand t (startDetector loaded t) := .setDet (.refl t) _
  have cancelled (t : State) : MessagesStand t (startCanceller t) :=
    (messagesStand_eachChannel (fun _ u => (MessagesStand.refl u).noteActive _) t).setCanc _
  have settled (t : State) : MessagesStand t (startSettled m t) := .ite (.of_units rfl) (.of_units rfl)
  rw [startStreamNow_eq]
  exact (((begun.trans (rested ..)).trans (messagesStand_recomputeMaxLen _)).trans (cancelled _)).trans (settled _)

theorem messagesStand_startAndAdmit (m : Marker) (stamp : BitVec 16) (x : Quad Sample) :
    MessagesStand s (startAndAdmit m stamp x s) :=
  (messagesStand_startStreamNow ..).trans (messagesStand_admitSlot ..)

theorem messagesStand_countSlot : MessagesStand s (countSlot s) := .setFilm (.refl s) _

/-- R16: a slot in each stream state. -/
theorem messagesStand_streamStep (m : Marker) (c : SlotClass) : MessagesStand s (streamStep m c s) := by
  have idle (t : State) : MessagesStand t (arriveIdle m c t) := by
    cases c with
    | bad | idle => exact .refl t
    | sample x =>
      have noted : MessagesStand t (noteMarkerStart m (countSlot t)) :=
        (messagesStand_countSlot t).trans (.ite (.noteActive (.refl _) _) (.refl _))
      exact noted.trans (.ite (messagesStand_startAndAdmit ..) (.setOut (.refl _) _))
  have draining (t : State) : MessagesStand t (arriveDraining c t) := by
    cases c with
    | bad | idle => exact messagesStand_release t
    | sample x => exact ((MessagesStand.refl t).setCounters _).trans (messagesStand_release (countDrained t))
  have cleared := (MessagesStand.refl s).setOut { s.out with slot := idleSlot }
  unfold streamStep
  dsimp only
  split
  · exact cleared.trans (idle _)
  · exact (cleared.trans (messagesStand_countSlot _)).trans (messagesStand_admitSlot ..)
  · exact ((cleared.trans (messagesStand_countSlot _)).trans (messagesStand_release _)).trans
      (messagesStand_admitSlot ..)
  · exact cleared.trans (draining _)

theorem messagesStand_armedStartStep (m : Marker) (x : Quad Sample) : MessagesStand s (armedStartStep m x s) :=
  .ite ((((MessagesStand.refl s).setOut _).trans (messagesStand_countSlot _)).trans (messagesStand_startAndAdmit ..))
    (.refl s)

/-- R6 to R8: step 5 of an arrival. -/
theorem messagesStand_updateLink (c : SlotClass) (before : StreamState) : MessagesStand s (updateLink c before s) := by
  have restored (t : State) : MessagesStand t (linkRestoredStep t) :=
    .ite (((MessagesStand.refl t).setLink _).raise ..) (.refl t)
  have dropped : MessagesStand s (if isDropout c before then countDropout s else s) :=
    .ite (.setCounters (.refl s) _) (.refl s)
  exact .ite ((dropped.setLink _).trans (messagesStand_linkLostStep _))
    (((MessagesStand.refl s).setLink _).trans (restored _))

/-! ### The values that follow the banks, and the profile store (R34, R54, R93, R153, R184 to R187) -/

theorem messagesStand_settleFromBank : MessagesStand s (settleFromBank s) :=
  ((((MessagesStand.refl s).noteActive (.stream .lookahead)).setStream _).trans
    (messagesStand_recomputeMains _)).trans (messagesStand_recomputeMaxLen _)

theorem messagesStand_bootDoneStep : MessagesStand s (bootDoneStep s) := by
  unfold bootDoneStep
  split
  · exact ((((MessagesStand.refl s).setTables _).setStore _).trans (messagesStand_settleFromBank _)).raise ..
  · exact .refl s

theorem messagesStand_recallDoneStep : MessagesStand s (recallDoneStep s) := by
  unfold recallDoneStep
  split
  · exact (((MessagesStand.refl s).setTables _).setStore _).raise ..
  · exact .refl s

theorem messagesStand_storeDoneStep : MessagesStand s (storeDoneStep s) := by
  unfold storeDoneStep
  split
  · exact ((MessagesStand.refl s).setStore _).raise ..
  · exact .refl s

theorem messagesStand_eraseEndStep : MessagesStand s (eraseEndStep s) := by
  unfold eraseEndStep
  split
  · exact .setStore (.refl s) _
  · exact .refl s

end

end Sys2Proof.ControlMessages
end

section
/-! The bounds of the queues and of the assembly, the mask and the latch (R157, R160, R172, R174, R177): every step
keeps them. -/

namespace Sys2Proof.ControlMessages

open Sys2Proof Sys2Proof.Machine Sys2Proof.Safety Sys2Proof.SampleLink Sys2Proof.StreamRing

/-! ### The commands (R159) -/

/-- What a command leaves of the messages once it has placed its reply. -/
def Answers (c : CmdCode) (s t : State) : Prop := ∃ body, MessagesStand (placeReply c.code body s) t

namespace Answers

variable {c : CmdCode} {s t u : State}

theorem of_reply {st : Status} {data : List Word} (h : MessagesStand (reply c st data s) t) : Answers c s t :=
  ⟨_, h⟩

theorem reply (st : Status) (data : List Word) : Answers c s (reply c st data s) := of_reply (.refl _)

theorem ite {p : Prop} [Decidable p] (a : Answers c s t) (b : Answers c s u) : Answers c s (if p then t else u) := by
  split <;> assumption

end Answers

section

variable (p : List Word) (s : State)

theorem answers_cmdWriteTable : Answers .writeTable s (cmdWriteTable p s) := by
  unfold cmdWriteTable
  split
  · exact .reply ..
  split
  · exact .reply ..
  · exact .ite (.reply ..) (.ite (.reply ..) ⟨_, .setTables (.refl _) _⟩)

theorem answers_cmdReadTable : Answers .readTable s (cmdReadTable p s) := by
  unfold cmdReadTable
  split
  · split <;> exact .reply ..
  · exact .reply ..

theorem answers_cmdSwapBanks : Answers .swapBanks s (cmdSwapBanks p s) := by
  have later (t : Trigger) : Answers .swapBanks s (swapLater t s) :=
    .ite (.reply ..) (.of_reply (.setTables (.refl _) _))
  have now : Answers .swapBanks s (swapNow s) := .ite (.reply ..) (.of_reply (messagesStand_exchangeBanks _))
  unfold cmdSwapBanks
  split
  · exact .ite now (.ite (later _) (.ite (later _) (.ite (later _) (.reply ..))))
  · exact .reply ..

theorem answers_cmdStartStream : Answers .startStream s (cmdStartStream p s) := by
  unfold cmdStartStream
  split
  · exact .ite (.reply ..) (.ite (.of_reply (.noteActive (.refl _) _))
      (.of_reply (.noteActive (.setStream (.refl _) _) _)))
  · exact .reply ..

theorem answers_cmdStopStream : Answers .stopStream s (cmdStopStream p s) := by
  have stopped : Answers .stopStream s (stopReel s) := .ite (.of_reply (.noteActive (.refl _) _))
    (.of_reply (.trans (.noteActive (.refl _) _) (messagesStand_enterDraining _)))
  unfold cmdStopStream
  split
  · split
    · exact .of_reply (.setStream (.refl _) _)
    · exact stopped
    · exact stopped
    · exact .reply ..
  · exact .reply ..

/-- R180: RESUME leaves BYPASS, never the latch. -/
theorem answers_cmdResume : Answers .resume s (cmdResume p s) := by
  unfold cmdResume
  split
  · split
    · exact .reply ..
    · exact .reply ..
    · exact .reply ..
    · next bypass _ =>
      refine .of_reply (st := .ok) (data := []) ⟨rfl, id, fun kept => ?_, fun latched => ?_⟩
      · have single : s.fault.double ≠ true := fun double => by
          have latched : s.fault.mode = .latched := kept.1 double
          rw [bypass] at latched
          cases latched
        exact ⟨fun double => absurd double single, fun normal => nomatch normal⟩
      · have latched : s.fault.mode = .latched := latched
        rw [bypass] at latched
        cases latched
  · exact .reply ..

theorem answers_cmdForceDefect : Answers .forceDefect s (cmdForceDefect p s) := by
  unfold cmdForceDefect
  split
  · exact .ite (.reply ..) (.ite (.reply ..) (.of_reply (.setDet (.refl _) _)))
  · exact .reply ..

theorem answers_cmdReadTemplate : Answers .readTemplate s (cmdReadTemplate p s) := by
  unfold cmdReadTemplate
  split
  · exact .ite (.reply ..) (.of_reply (messagesStand_readTemplateBins ..))
  · exact .reply ..

theorem answers_cmdLoadTemplate : Answers .loadTemplate s (cmdLoadTemplate p s) := by
  unfold cmdLoadTemplate
  split
  · exact .reply ..
  · exact .ite (.reply ..) (.ite (.reply ..) (.of_reply (.setCanc (.refl _) _)))

/-- R174: a new mask keeps the event queue sound. -/
theorem answers_cmdSetEventMask : Answers .setEventMask s (cmdSetEventMask p s) := by
  unfold cmdSetEventMask
  split
  · exact .of_reply (.setEvents (.refl _) fun (sound : EventsSound [] s.events) => sound.applyMask ..)
  · exact .reply ..

/-- R173: READ_EVENT_SUMMARY changes the seen set alone. -/
theorem answers_cmdReadEventSummary : Answers .readEventSummary s (cmdReadEventSummary p s) := by
  unfold cmdReadEventSummary
  split
  · exact .of_reply (.setEvents (.refl _) fun ⟨bound, ignored, pending⟩ => ⟨bound, ignored, pending⟩)
  · exact .reply ..

/-- R179: ACK_FAULT leaves the mode and the double-fault indication. -/
theorem answers_cmdAckFault : Answers .ackFault s (cmdAckFault p s) := by
  unfold cmdAckFault
  split
  · exact .of_reply ⟨rfl, id, id, id⟩
  · exact .reply ..

theorem answers_cmdRecallProfile : Answers .recallProfile s (cmdRecallProfile p s) := by
  have begun (i : Channel) : Answers .recallProfile s (beginRecall i (reply .recallProfile .accepted [] s)) :=
    .of_reply (.setStore (.setTables (.refl _) _) _)
  unfold cmdRecallProfile
  split
  · exact .ite (.reply ..) (.ite (.reply ..) (.ite (.reply ..) (.ite (.reply ..) (begun _))))
  · exact .reply ..

/-- R159: the execution of a command other than SOFT_RESET. -/
theorem answers_runCommand {c : CmdCode} (other : c ≠ .softReset) : Answers c s (runCommand c p s) := by
  cases c with
  | queryStatus =>
    simp only [runCommand, cmdQueryStatus]
    split
    · exact .ite (.reply ..) (.reply ..)
    · exact .reply ..
  | readCounters => simp only [runCommand, cmdReadCounters]; split <;> exact .reply ..
  | clearCounters =>
    simp only [runCommand, cmdClearCounters]
    split
    · exact .of_reply (.setCounters (.refl _) _)
    · exact .reply ..
  | writeTable => exact answers_cmdWriteTable p s
  | readTable => exact answers_cmdReadTable p s
  | swapBanks => exact answers_cmdSwapBanks p s
  | cancelSwap =>
    simp only [runCommand, cmdCancelSwap]
    split
    · exact .of_reply (.setTables (.refl _) _)
    · exact .reply ..
  | startStream => exact answers_cmdStartStream p s
  | stopStream => exact answers_cmdStopStream p s
  | resume => exact answers_cmdResume p s
  | setFrameTag =>
    simp only [runCommand, cmdSetFrameTag]
    split
    · exact .ite (.reply ..) (.of_reply (.setFilm (.refl _) _))
    · exact .reply ..
  | forceDefect => exact answers_cmdForceDefect p s
  | readLog =>
    simp only [runCommand, cmdReadLog]
    split
    · exact .ite (.reply ..) (.of_reply (.of_units rfl))
    · exact .reply ..
  | readTemplate => exact answers_cmdReadTemplate p s
  | loadTemplate => exact answers_cmdLoadTemplate p s
  | setEventMask => exact answers_cmdSetEventMask p s
  | readEventSummary => exact answers_cmdReadEventSummary p s
  | ackFault => exact answers_cmdAckFault p s
  | storeProfile =>
    simp only [runCommand, cmdStoreProfile]
    split
    · exact .ite (.reply ..) (.ite (.reply ..) (.of_reply (.setStore (.refl _) _)))
    · exact .reply ..
  | recallProfile => exact answers_cmdRecallProfile p s
  | softReset => exact absurd rfl other

/-- R163: behind its values a soft reset leaves what the stages leave. -/
theorem messagesStand_softResetNow : MessagesStand (softValues s) (softResetNow s) :=
  (messagesStand_settleFromBank _).raise ..

/-- R159: a command places its reply, and SOFT_RESET then resets the part. -/
theorem runCommand_cases (c : CmdCode) : Answers c s (runCommand c p s) ∨
    ∃ body, MessagesStand (softValues (placeReply c.code body s)) (runCommand c p s) := by
  by_cases other : c = .softReset
  · subst other
    cases p with
    | nil => exact .inr ⟨_, messagesStand_softResetNow _⟩
    | cons => exact .inl (.reply ..)
  · exact .inl (answers_runCommand p s other)

end

/-! ### One step -/

/-- A predicate on the messages that every part of the commands' meanings keeps. -/
structure MessagesKeep (P : State → Prop) : Prop where
  stands : ∀ {s t}, MessagesStand s t → P s → P t
  begins : ∀ w s, P s → P (collecting (beginAssembly w) s)
  grows : ∀ w a s, s.cmd.assembly = some a → P s → P (collecting (addBody w a) s)
  spoils : ∀ a s, s.cmd.assembly = some a → P s → P (collecting { a with corrupt := true } s)
  closes : ∀ a sumOk s, P s → P (closeMessage a sumOk (endAssembly s))
  sent : ∀ s, P s → P (messageSentStep s)
  hardReset : ∀ s, P s → P (hardValues s)

namespace MessagesKeep

variable {P : State → Prop} (k : MessagesKeep P) {s : State} (h : P s)

include k h

/-- An operation on other units. -/
theorem beside {t : State} (units : (t.cmd, t.events, t.fault) = (s.cmd, s.events, s.fault)) : P t :=
  k.stands (.of_units units) h

/-- R157: a control word, or the BAD indication. -/
theorem takeControl (f : Option LinkFrame) : P (takeControl f s) := by
  have counted (x : Counters) : P (s.setCounters x) := k.beside h rfl
  cases f with
  | none =>
    cases begun : s.cmd.assembly with
    | none => rwa [takeControl_bad_idle begun]
    | some a => rw [takeControl_bad begun]; exact k.spoils a s begun h
  | some f =>
    cases kind : f.kind with
    | none => rwa [takeControl_none kind]
    | head =>
      cases begun : s.cmd.assembly with
      | none => rw [takeControl_head kind begun]; exact k.begins _ s h
      | some a => rw [takeControl_supersedes kind begun]; exact k.begins _ _ (counted _)
    | body =>
      cases begun : s.cmd.assembly with
      | none => rw [takeControl_stray (.inl kind) begun]; exact counted _
      | some a => rw [takeControl_body kind begun]; exact k.grows _ a s begun h
    | check =>
      cases begun : s.cmd.assembly with
      | none => rw [takeControl_stray (.inr kind) begun]; exact counted _
      | some a => rw [takeControl_check kind begun]; exact k.closes a _ s h

theorem commandStep (c : CmdCode) (p : List Word) : P (commandStep c p s) := by
  unfold Machine.commandStep
  split
  · exact k.closes _ _ s h
  · exact h

/-- R164, R165: the departing frame carries a word, and a message sent whole is removed. -/
theorem egressStep : P (egressStep s) := by
  obtain ⟨t, chosen⟩ := chooseMessage_frame s
  obtain ⟨t', counted⟩ := countSent_frame (depart (nextWord (s.setTx t)) (s.setTx t))
  simp only [Machine.egressStep, chosen, counted]
  exact k.sent _ (k.beside h rfl)

theorem classify (f : Option LinkFrame) : P (classify f s) := by
  unfold Machine.classify
  split
  · exact k.stands (.setCounters (.refl s) _) h
  · exact h

theorem arrivalStep (bits : BitVec 127) : P (arrivalStep bits s) := by
  have delivered (f : Option LinkFrame) (t : State) : MessagesStand t (deliver f t) :=
    .trans (.ite (.setCounters (.refl t) _) (.refl t)) (messagesStand_deliverMarker ..)
  unfold Machine.arrivalStep
  split
  · exact k.stands (.setOut (.refl s) _) h
  split
  · exact k.stands (.setOut (.refl s) _) h
  split
  · exact k.egressStep (k.takeControl (k.stands (.setOut (.refl _) _) (k.classify h _)) _)
  · refine k.egressStep (k.stands (messagesStand_updateLink ..) (k.takeControl ?_ (parseFrame bits)))
    exact k.stands ((delivered (parseFrame bits) _).trans (messagesStand_streamStep ..)) (k.classify h _)

theorem assertReset : P (assertReset s) := by
  unfold Machine.assertReset
  split
  · exact h
  split <;> exact k.beside h rfl

theorem releaseReset : P (releaseReset s) := by
  unfold Machine.releaseReset
  split
  · dsimp only
    split
    · exact k.hardReset _ (k.beside h rfl)
    · exact k.beside h rfl
  · exact h

theorem powerUpStep : P (powerUpStep s) := by
  have reset := k.hardReset _ (k.beside (t := s.setPower ⟨true, s.power.resetInput, .power, .idle, .normal⟩) h rfl)
  unfold Machine.powerUpStep
  dsimp only
  split
  · exact k.stands (.setStore (.refl _) _) reset
  · exact reset

/-- Every command answers a next state, and keeps what the parts keep. -/
theorem exec (i : Instr) : ∃ t, exec i s = .next t ∧ P t := by
  have acts {p : Bool} {f : State → State} (hf : P (f s)) : ∃ t, actWhen p f s = .next t ∧ P t :=
    StagesKeep.actWhen_keeps h fun _ => hf
  rcases hm : i.message with _ | ⟨c, p⟩
  · cases i with
    | arrival bits => exact ⟨_, rfl, k.arrivalStep h bits⟩
    | armedStartTaken m x => exact acts (k.stands (messagesStand_armedStartStep s m x) h)
    | perfMiss => exact acts (k.stands (messagesStand_perfMissStep s) h)
    | normalClose ch => exact acts (k.stands (.of_inner (inner_normalCloseStep ch s)) h)
    | retirementEnd => exact acts (k.stands (messagesStand_retirementEndStep s) h)
    | drainEnd => exact acts (k.stands (.ite (messagesStand_release s) (.refl s)) h)
    | linkLost => exact acts (k.stands (messagesStand_linkLostStep s) h)
    | pendingExchange t => exact acts (k.stands (messagesStand_exchangeAt s t) h)
    | messageSent => exact acts (k.sent s h)
    | hardReset => exact ⟨_, rfl, k.assertReset h⟩
    | powerUp => exact acts (k.powerUpStep h)
    | hardResetRelease => exact ⟨_, rfl, k.releaseReset h⟩
    | bootRecallDone => exact acts (k.stands (messagesStand_bootDoneStep s) h)
    | storeEraseEnd => exact acts (k.stands (messagesStand_eraseEndStep s) h)
    | storeDone => exact acts (k.stands (messagesStand_storeDoneStep s) h)
    | recallDone => exact acts (k.stands (messagesStand_recallDoneStep s) h)
    | powerDown => exact ⟨_, rfl, k.beside h rfl⟩
    | _ => cases hm
  · rw [StagesKeep.eq_instrOfCommand hm, exec_command]
    exact ⟨_, rfl, k.commandStep h c p⟩

omit h in
/-- A step keeps what every part of the commands' meanings keeps. -/
theorem stepKeeps : StepKeeps P := by
  intro s t h hs
  unfold step at hs
  split at hs
  · cases hs; exact h
  · next i rest _ =>
    obtain ⟨u, hu, kept⟩ := k.exec (k.beside (t := s.setPending rest) h rfl) i
    rw [hu] at hs
    cases hs
    exact kept

end MessagesKeep

/-! ### The close of a message (R158) -/

/-- R158: a closed message is discarded, refused or executed, and the last two place a reply where there is room. -/
theorem closeMessage_cases (a : Assembly) (sumOk : Bool) (s : State) :
    MessagesStand s (closeMessage a sumOk s) ∨
      s.cmd.replies.length < 2 ∧ ∃ code body u, MessagesStand u (closeMessage a sumOk s) ∧
        (u = placeReply code body s ∨ u = softValues (placeReply code body s)) := by
  by_cases full : 2 ≤ s.cmd.replies.length
  · rw [closeMessage_full full]
    exact .inl (.setCounters (.refl s) _)
  refine .inr ⟨Nat.not_le.1 full, ?_⟩
  have refuses (code : BitVec 8) (st : Status) : MessagesStand (placeReply code [statusWord st 0] s)
      (refuse code st (countRefused s)) := .of_units rfl
  unfold closeMessage
  rw [if_neg (show ¬ s.cmd.replies.length ≥ Config.replyMax from full)]
  split
  · exact ⟨_, _, _, refuses .., .inl rfl⟩
  split
  · exact ⟨_, _, _, refuses .., .inl rfl⟩
  split
  · exact ⟨_, _, _, refuses .., .inl rfl⟩
  split
  · exact ⟨_, _, _, .refl _, .inl rfl⟩
  split
  · exact ⟨_, _, _, .refl _, .inl rfl⟩
  · rcases runCommand_cases a.words s _ with ⟨body, answered⟩ | ⟨body, reset⟩
    · exact ⟨_, body, _, answered, .inl rfl⟩
    · exact ⟨_, body, _, reset, .inr rfl⟩

/-- R164, R165: a message that has been sent whole leaves the reply buffer or the event queue. -/
theorem messageSentStep_cases (s : State) : messageSentStep s = s ∨
    messageSentStep s = (s.setCmd { s.cmd with replies := s.cmd.replies.tail }).setTx none ∨
    messageSentStep s = (s.setEvents { s.events with queue := s.events.queue.tail }).setTx none := by
  unfold messageSentStep removeSent
  split
  · exact .inl rfl
  split
  · split
    · exact .inr (.inl rfl)
    · exact .inr (.inr rfl)
  · exact .inl rfl

/-! ### The queues, the mask and the latch (R160, R172, R174, R177) -/

/-- R160, R172, R174, R177: at most two replies, a sound event queue, and the double-fault indication with the latch. -/
structure MessagesKept (s : State) : Prop where
  replies : s.cmd.replies.length ≤ 2
  events : EventsSound [] s.events
  fault : FaultKept s

theorem messagesKept_iff {s : State} : MessagesKept s ↔ QueuesBounded s ∧ MaskKept s ∧ FaultKept s := by
  refine ⟨fun ⟨replies, events, fault⟩ => ?_, fun ⟨⟨replies, bound⟩, mask, fault⟩ =>
    ⟨replies, eventsSound_nil_iff.2 ⟨bound, mask⟩, fault⟩⟩
  obtain ⟨bound, mask⟩ := eventsSound_nil_iff.1 events
  exact ⟨⟨replies, bound⟩, mask, fault⟩

theorem MessagesKept.of_stands {s t : State} (k : MessagesStand s t) (h : MessagesKept s) : MessagesKept t :=
  ⟨by rw [k.cmd]; exact h.replies, k.events h.events, k.fault h.fault⟩

/-- R163: a soft reset ends the latch and its indication together. -/
theorem MessagesKept.softValues {s : State} (h : MessagesKept s) : MessagesKept (softValues s) :=
  ⟨h.replies, h.events, by simp [FaultKept, Machine.softValues]⟩

theorem messagesKept_closeMessage {s : State} (h : MessagesKept s) (a : Assembly) (sumOk : Bool) :
    MessagesKept (closeMessage a sumOk s) := by
  rcases closeMessage_cases a sumOk s with stands | ⟨room, code, body, u, stands, placed⟩
  · exact h.of_stands stands
  · have answered : MessagesKept (placeReply code body s) :=
      ⟨by rw [placeReply_cmd, List.length_append]; exact room, h.events, h.fault⟩
    rcases placed with rfl | rfl
    · exact answered.of_stands stands
    · exact answered.softValues.of_stands stands

theorem messagesKept_messageSentStep {s : State} (h : MessagesKept s) : MessagesKept (messageSentStep s) := by
  obtain ⟨replies, ⟨bound, ignored, pending⟩, fault⟩ := h
  rcases messageSentStep_cases s with same | removed | removed
  · rw [same]; exact ⟨replies, ⟨bound, ignored, pending⟩, fault⟩
  · rw [removed]; exact ⟨(List.tail_sublist _).length_le.trans replies, ⟨bound, ignored, pending⟩, fault⟩
  · rw [removed]; exact ⟨replies, ⟨(List.tail_sublist _).length_le.trans bound, ignored, pending⟩, fault⟩

theorem messagesKeep_messagesKept : MessagesKeep MessagesKept where
  stands k h := h.of_stands k
  begins _ _ h := ⟨h.replies, h.events, h.fault⟩
  grows _ _ _ _ h := ⟨h.replies, h.events, h.fault⟩
  spoils _ _ _ h := ⟨h.replies, h.events, h.fault⟩
  closes a sumOk s h := messagesKept_closeMessage (s := endAssembly s) ⟨h.replies, h.events, h.fault⟩ a sumOk
  sent _ h := messagesKept_messageSentStep h
  hardReset s _ := ⟨Nat.zero_le 2, ⟨Nat.zero_le 32, BitVec.zero_and, by simp [hardValues]⟩,
    by simp [FaultKept, hardValues]⟩

/-! ### The message in assembly (R157) -/

/-- R158: a closed message leaves WAIT_HEAD. -/
theorem closeMessage_idle {s : State} (idle : s.cmd.assembly = none) (a : Assembly) (sumOk : Bool) :
    (closeMessage a sumOk s).cmd.assembly = none := by
  rcases closeMessage_cases a sumOk s with stands | ⟨-, code, body, u, stands, rfl | rfl⟩
  · rw [stands.cmd]; exact idle
  · rw [stands.cmd]; exact idle
  · rw [stands.cmd]; rfl

theorem assemblyKept_of_idle {s : State} (idle : s.cmd.assembly = none) : AssemblyKept s := fun a begun => by
  rw [idle] at begun
  cases begun

/-- R157: a BODY word is stored up to the sixty-third, and the count stops at 64. -/
theorem addBody_bounds {a : Assembly} (h : a.count ≤ 64 ∧ a.words.length = min 63 a.count) (w : Word) :
    (addBody w a).count ≤ 64 ∧ (addBody w a).words.length = min 63 (addBody w a).count := by
  obtain ⟨count, words⟩ := h
  have next : (addBody w a).count = min 64 (a.count + 1) := rfl
  rw [next]
  refine ⟨Nat.min_le_left .., ?_⟩
  by_cases room : a.count < 63
  · have stored : (addBody w a).words = a.words ++ [w] := if_pos room
    rw [stored, List.length_append, List.length_singleton]
    omega
  · have dropped : (addBody w a).words = a.words := if_neg room
    rw [dropped]
    omega

theorem assemblyKept_collecting {a : Assembly} (h : a.count ≤ 64 ∧ a.words.length = min 63 a.count) (s : State) :
    AssemblyKept (collecting a s) := fun b begun => by
  cases begun
  exact h

theorem messagesKeep_assemblyKept : MessagesKeep AssemblyKept where
  stands k h a begun := h a (k.cmd ▸ begun)
  begins _ s _ := assemblyKept_collecting ⟨Nat.zero_le 64, rfl⟩ s
  grows w a s begun h := assemblyKept_collecting (addBody_bounds (h a begun) w) s
  spoils a s begun h := assemblyKept_collecting (a := { a with corrupt := true }) (h a begun) s
  closes a sumOk s _ := assemblyKept_of_idle (closeMessage_idle rfl a sumOk)
  sent s h := by
    rcases messageSentStep_cases s with same | removed | removed
    · rwa [same]
    · rw [removed]; exact h
    · rw [removed]; exact h
  hardReset s _ := assemblyKept_of_idle rfl

/-- Settles O9: the stages change the events by raisings and the fault unit by faults alone, a command places one reply
where there is room, and the assembly grows by `addBody` and ends with its close. -/
theorem stepKeepsQueuesAndLatch : Obligations.StepKeepsQueuesAndLatch := by
  refine ⟨fun s t kept stepped => ?_, messagesKeep_assemblyKept.stepKeeps⟩
  exact messagesKept_iff.1 (messagesKeep_messagesKept.stepKeeps s t (messagesKept_iff.2 kept) stepped)

end Sys2Proof.ControlMessages
end

section
/-! The latch (R178): what the commands, the slots and the resets leave of LATCHED_BYPASS. -/

namespace Sys2Proof.ControlMessages

open Sys2Proof Sys2Proof.Machine Sys2Proof.Safety Sys2Proof.SampleLink Sys2Proof.StreamRing

/-- A part in LATCHED_BYPASS stays there. -/
def LatchHolds (s t : State) : Prop := s.fault.mode = .latched → t.fault.mode = .latched

theorem latchHolds_of_fault {s t : State} (same : t.fault = s.fault) : LatchHolds s t := fun h => by rwa [same]

theorem LatchHolds.trans {s t u : State} (a : LatchHolds s t) (b : LatchHolds t u) : LatchHolds s u := b ∘ a

/-! ### Messages and slots (R157 to R159) -/

/-- R158, R159: a closed message of a code other than SOFT_RESET's. -/
theorem latchHolds_closeMessage {a : Assembly} (other : cmdOf a.code ≠ some .softReset) (sumOk : Bool) (s : State) :
    LatchHolds s (closeMessage a sumOk s) := by
  unfold closeMessage
  split
  · exact id
  split
  · exact id
  split
  · exact id
  split
  · exact id
  split
  · exact id
  split
  · exact id
  · next c code _ =>
    obtain ⟨_, stands⟩ := answers_runCommand a.words s (c := c) fun soft => other (soft ▸ code)
    exact stands.latched

theorem latchHolds_commandStep {c : CmdCode} (other : c ≠ .softReset) (p : List Word) (s : State) :
    LatchHolds s (commandStep c p s) := by
  have code : cmdOf (soundMessage c p).code ≠ some .softReset := by
    rw [soundMessage, cmdOf_code]
    exact fun same => other (Option.some.inj same)
  unfold commandStep
  split
  · exact latchHolds_closeMessage code true (endAssembly s)
  · exact id

/-- R157: a control word other than a CHECK closes no message. -/
theorem takeControl_fault {f : Option LinkFrame} (noCheck : ∀ g, f = some g → g.kind ≠ .check) (s : State) :
    (takeControl f s).fault = s.fault := by
  cases f with
  | none =>
    cases begun : s.cmd.assembly with
    | none => rw [takeControl_bad_idle begun]
    | some a => rw [takeControl_bad begun]; rfl
  | some f =>
    cases kind : f.kind with
    | none => rw [takeControl_none kind]
    | head =>
      cases begun : s.cmd.assembly with
      | none => rw [takeControl_head kind begun]; rfl
      | some a => rw [takeControl_supersedes kind begun]; rfl
    | body =>
      cases begun : s.cmd.assembly with
      | none => rw [takeControl_stray (.inl kind) begun]; rfl
      | some a => rw [takeControl_body kind begun]; rfl
    | check => exact absurd kind (noCheck f rfl)

theorem egressStep_fault (s : State) : (egressStep s).fault = s.fault := by
  obtain ⟨w, t, c, e, departed⟩ := egressStep_frame s
  rw [departed]
  rfl

theorem messagesStand_classify (f : Option LinkFrame) (s : State) : MessagesStand s (classify f s) :=
  .ite (.setCounters (.refl s) _) (.refl s)

theorem messagesStand_deliver (f : Option LinkFrame) (s : State) : MessagesStand s (deliver f s) :=
  .trans (.ite (.setCounters (.refl s) _) (.refl s)) (messagesStand_deliverMarker ..)

/-- R5, R14: an arrival whose control word is no CHECK. -/
theorem latchHolds_arrivalStep {bits : BitVec 127} (noCheck : ∀ f, parseFrame bits = some f → f.kind ≠ .check)
    (s : State) : LatchHolds s (arrivalStep bits s) := by
  have controlled (t : State) : LatchHolds t (takeControl (parseFrame bits) t) :=
    latchHolds_of_fault (takeControl_fault noCheck t)
  have departs (t : State) : LatchHolds t (egressStep t) := latchHolds_of_fault (egressStep_fault t)
  unfold arrivalStep
  split
  · exact id
  split
  · exact id
  split
  · have passed := (messagesStand_classify (parseFrame bits) s).setOut
      { (classify (parseFrame bits) s).out with slot := passedSlot (parseFrame bits) }
    exact (LatchHolds.trans passed.latched (controlled _)).trans (departs _)
  · have delivered := (messagesStand_classify (parseFrame bits) s).trans (messagesStand_deliver (parseFrame bits) _)
    have streamed := delivered.trans
      (messagesStand_streamStep _ (deliveredMarker (parseFrame bits)) (classOf (parseFrame bits)))
    exact ((LatchHolds.trans streamed.latched (controlled _)).trans (messagesStand_updateLink ..).latched).trans
      (departs _)

/-! ### Every command -/

theorem messageSentStep_fault (s : State) : (messageSentStep s).fault = s.fault := by
  rcases messageSentStep_cases s with same | removed | removed
  · rw [same]
  · rw [removed]; rfl
  · rw [removed]; rfl

theorem assertReset_fault (s : State) : (assertReset s).fault = s.fault := by
  unfold assertReset
  split
  · rfl
  split <;> rfl

/-- R178: what holds the latch. -/
theorem latchHolds_exec {i : Instr}
    (noCheck : ∀ bits f, i = .arrival bits → parseFrame bits = some f → f.kind ≠ .check)
    (noSoftReset : ∀ p, i ≠ .softReset p) (noRelease : i ≠ .hardResetRelease) (noPowerUp : i ≠ .powerUp) (s : State) :
    ∃ t, exec i s = .next t ∧ LatchHolds s t := by
  have acts {p : Bool} {f : State → State} (hf : LatchHolds s (f s)) :
      ∃ t, actWhen p f s = .next t ∧ LatchHolds s t :=
    StagesKeep.actWhen_keeps id fun _ => hf
  rcases hm : i.message with _ | ⟨c, p⟩
  · cases i with
    | arrival bits => exact ⟨_, rfl, latchHolds_arrivalStep (noCheck bits · rfl) s⟩
    | armedStartTaken m x => exact acts (messagesStand_armedStartStep s m x).latched
    | perfMiss => exact acts (messagesStand_perfMissStep s).latched
    | normalClose ch => exact acts (inner_normalCloseStep ch s).latched
    | retirementEnd => exact acts (messagesStand_retirementEndStep s).latched
    | drainEnd => exact acts (MessagesStand.ite (messagesStand_release s) (.refl s)).latched
    | linkLost => exact acts (messagesStand_linkLostStep s).latched
    | pendingExchange t => exact acts (messagesStand_exchangeAt s t).latched
    | messageSent => exact acts (latchHolds_of_fault (messageSentStep_fault s))
    | hardReset => exact ⟨_, rfl, latchHolds_of_fault (assertReset_fault s)⟩
    | powerUp => exact absurd rfl noPowerUp
    | hardResetRelease => exact absurd rfl noRelease
    | bootRecallDone => exact acts (messagesStand_bootDoneStep s).latched
    | storeEraseEnd => exact acts (messagesStand_eraseEndStep s).latched
    | storeDone => exact acts (messagesStand_storeDoneStep s).latched
    | recallDone => exact acts (messagesStand_recallDoneStep s).latched
    | powerDown => exact ⟨_, rfl, id⟩
    | _ => cases hm
  · have spelled := StagesKeep.eq_instrOfCommand hm
    have other : c ≠ .softReset := fun soft => noSoftReset p (by rw [spelled, soft]; rfl)
    rw [spelled, exec_command]
    exact ⟨_, rfl, latchHolds_commandStep other p s⟩

/-- Settles O16: the stages hold the latch by `MessagesStand.latched`, and among the commands and the resets only
SOFT_RESET and the hard-reset values write the mode otherwise. -/
theorem latchedUntilReset : Obligations.LatchedUntilReset := by
  intro i s t latched executed noCheck noSoftReset noRelease noPowerUp
  obtain ⟨u, answer, holds⟩ := latchHolds_exec noCheck noSoftReset noRelease noPowerUp s
  rw [answer] at executed
  cases executed
  exact holds latched

end Sys2Proof.ControlMessages
end

section
/-! Raisings (R172), and READ_EVENT_SUMMARY and ACK_FAULT (R173, R179). -/

namespace Sys2Proof.ControlMessages

open Sys2Proof Sys2Proof.Machine Sys2Proof.Safety

/-! ### A raising (R172) -/

section

variable {e : Events}

/-- R172: an unmasked raising is seen and offered. -/
theorem takeRaising_unmasked {r : EventRecord} (free : e.mask.getLsbD (kindNum r.kind).val = false) :
    takeRaising r e = offerRecord r.tag r.offset r (seeKind r.kind e) := by
  have offered : isMasked r.kind (seeKind r.kind e) = false := (isMasked_eq ..).trans free
  simp only [takeRaising, offered, Bool.false_eq_true, if_false]

/-- R172 step 5: with room the record takes the newest place. -/
theorem placeRecord_room (room : e.queue.length < 32) (r : EventRecord) :
    placeRecord r e = { e with queue := e.queue ++ [r] } := if_pos room

/-- R172 step 5: without room the record is dropped and counted. -/
theorem placeRecord_full (full : 32 ≤ e.queue.length) (r : EventRecord) :
    placeRecord r e = { e with lost := satInc e.lost } := if_neg (Nat.not_lt.2 full)

variable (tag : BitVec 24) (offset : BitVec 16)

/-- R172 step 3: with a full queue the record is dropped and counted. -/
theorem offerRecord_full (full : 32 ≤ e.queue.length) (r : EventRecord) :
    offerRecord tag offset r e = { e with lost := satInc e.lost } := if_pos full

/-- R172 step 4: with room after losses EVENTS_LOST goes first. -/
theorem offerRecord_afterLosses (room : e.queue.length < 32) (losses : e.lost ≠ 0) (r : EventRecord) :
    offerRecord tag offset r e = placeRecord r (raiseEventsLost tag offset e) := by
  rw [offerRecord, if_neg (show ¬ e.queue.length ≥ Config.queueMax from Nat.not_le.2 room), if_neg losses]

/-- R172 step 4: the record of EVENTS_LOST. -/
def eventsLostRecord (e : Events) : EventRecord := ⟨.eventsLost, none, tag, offset, some e.lost⟩

/-- R172 step 4: masked, EVENTS_LOST goes into the pending set. -/
theorem raiseEventsLost_masked (masked : e.mask.getLsbD 15 = true) : raiseEventsLost tag offset e =
    { e with
      seen := e.seen ||| (1#32 <<< 15), lost := 0, kept := e.kept.set 15 (some (eventsLostRecord tag offset e)) } := by
  have kept : isMasked .eventsLost (seeKind .eventsLost { e with lost := 0 }) = true := (isMasked_eq ..).trans masked
  rw [raiseEventsLost, if_pos kept]
  rfl

/-- R172 step 4: unmasked, EVENTS_LOST takes the newest place. -/
theorem raiseEventsLost_unmasked (room : e.queue.length < 32) (free : e.mask.getLsbD 15 = false) :
    raiseEventsLost tag offset e =
      { e with
        seen := e.seen ||| (1#32 <<< 15), lost := 0, queue := e.queue ++ [eventsLostRecord tag offset e] } := by
  have queued : isMasked .eventsLost (seeKind .eventsLost { e with lost := 0 }) = false := (isMasked_eq ..).trans free
  rw [raiseEventsLost, if_neg (by rw [queued]; decide)]
  exact placeRecord_room (e := seeKind .eventsLost { e with lost := 0 }) room _

/-- R172 steps 4 and 5: after losses, with EVENTS_LOST masked, the record is queued. -/
theorem offerRecord_lossesMasked (room : e.queue.length < 32) (losses : e.lost ≠ 0) (masked : e.mask.getLsbD 15 = true)
    (r : EventRecord) : offerRecord tag offset r e =
      { e with
        seen := e.seen ||| (1#32 <<< 15), lost := 0, kept := e.kept.set 15 (some (eventsLostRecord tag offset e))
        queue := e.queue ++ [r] } := by
  rw [offerRecord_afterLosses tag offset room losses, raiseEventsLost_masked tag offset masked]
  exact placeRecord_room (by exact room) r

/-- R172 steps 4 and 5: after losses, with two places free, the record follows EVENTS_LOST. -/
theorem offerRecord_lossesQueued (room : e.queue.length < 31) (losses : e.lost ≠ 0) (free : e.mask.getLsbD 15 = false)
    (r : EventRecord) : offerRecord tag offset r e =
      { e with
        seen := e.seen ||| (1#32 <<< 15), lost := 0, queue := e.queue ++ [eventsLostRecord tag offset e, r] } := by
  rw [offerRecord_afterLosses tag offset (by omega) losses, raiseEventsLost_unmasked tag offset (by omega) free,
    placeRecord_room (by rw [List.length_append]; exact Nat.succ_lt_succ room), List.append_assoc]
  rfl

/-- R172 steps 4 and 5: after losses EVENTS_LOST takes the last place, and the record is dropped and counted. -/
theorem offerRecord_lossesLast (last : e.queue.length = 31) (losses : e.lost ≠ 0) (free : e.mask.getLsbD 15 = false)
    (r : EventRecord) : offerRecord tag offset r e =
      { e with
        seen := e.seen ||| (1#32 <<< 15), lost := 1, queue := e.queue ++ [eventsLostRecord tag offset e] } := by
  rw [offerRecord_afterLosses tag offset (by omega) losses, raiseEventsLost_unmasked tag offset (by omega) free,
    placeRecord_full (by simp [last])]
  rfl

end

/-- Settles O52: each clause is the step of R172 that its hypotheses select. -/
theorem raisingIsTakenInOrder : Obligations.RaisingIsTakenInOrder := by
  intro r e seen masked lostRecord
  have offered (free : masked = false) : takeRaising r e = offerRecord r.tag r.offset r (seeKind r.kind e) :=
    takeRaising_unmasked free
  refine ⟨fun held => takeRaising_masked ((isMasked_eq ..).trans held), fun free full => ?_,
    fun free room unlost => takeRaising_room ((isMasked_eq ..).trans free) unlost room,
    fun free room losses lostMasked => ?_, fun free room losses lostFree => ?_, fun free last losses lostFree => ?_⟩
  · exact (offered free).trans (offerRecord_full (e := seeKind r.kind e) _ _ full r)
  · exact (offered free).trans (offerRecord_lossesMasked (e := seeKind r.kind e) _ _ room losses lostMasked r)
  · exact (offered free).trans (offerRecord_lossesQueued (e := seeKind r.kind e) _ _ room losses lostFree r)
  · exact (offered free).trans (offerRecord_lossesLast (e := seeKind r.kind e) _ _ last losses lostFree r)

/-! ### READ_EVENT_SUMMARY (R173) -/

/-- R173: a set gathered kind by kind holds what it held and the kinds with a record. -/
theorem gatherKept_getLsbD (e : Events) (ks : List (Fin 18)) (x : BitVec 32) (i : Fin 32) :
    (ks.foldl (fun a k => if e.kept[k].isSome then a ||| (1#32 <<< k.val) else a) x).getLsbD i.val =
      (x.getLsbD i.val || ks.any (fun k => e.kept[k].isSome && k.val == i.val)) := by
  induction ks generalizing x with
  | nil => simp
  | cons k ks ih =>
    have one : (1#32 <<< k.val).getLsbD i.val = (k.val == i.val) := by
      have inside : k.val < 32 := by omega
      rw [← BitVec.twoPow_eq, BitVec.getLsbD_twoPow, decide_eq_true inside, Bool.true_and, beq_eq_decide]
    rw [List.foldl_cons, ih, List.any_cons]
    split
    · next record => rw [BitVec.getLsbD_or, one, record, Bool.true_and, Bool.or_assoc]
    · next empty => rw [Bool.eq_false_of_not_eq_true empty, Bool.false_and, Bool.false_or]

/-- R173: kind i of the pending set stands in bit i. -/
theorem keptSet_getLsbD (e : Events) (i : Fin 32) :
    (keptSet e).getLsbD i.val = if h : i.val < 18 then (e.kept[i.val]'h).isSome else false := by
  have empty : (0 : BitVec 32).getLsbD i.val = false := BitVec.getLsbD_zero
  rw [keptSet, gatherKept_getLsbD, empty, Bool.false_or, Bool.eq_iff_iff, List.any_eq_true]
  split
  · next inside =>
    refine ⟨fun ⟨k, _, both⟩ => ?_, fun record => ⟨⟨i.val, inside⟩, List.mem_finRange _, by simpa using record⟩⟩
    obtain ⟨record, same⟩ := Bool.and_eq_true_iff.1 both
    obtain rfl : k = ⟨i.val, inside⟩ := Fin.ext (beq_iff_eq.1 same)
    exact record
  · next outside =>
    refine ⟨fun ⟨k, _, both⟩ => ?_, fun h => nomatch h⟩
    have same : k.val = i.val := beq_iff_eq.1 (Bool.and_eq_true_iff.1 both).2
    exact absurd (same ▸ k.isLt) outside

/-- Settles O32: the reply's sets are the seen set and `keptSet`. -/
theorem readEventSummaryReplies : Obligations.ReadEventSummaryReplies := fun s ready =>
  ⟨keptSet s.events, keptSet_getLsbD s.events,
    exec_ready (c := .readEventSummary) (p := []) ready (Nat.zero_le 63)⟩

/-! ### ACK_FAULT (R179) -/

/-- R179: ACK_FAULT where it is executed. -/
theorem exec_ackFault {s : State} (ready : Ready s) : exec (.ackFault []) s =
    .next ((afterReply s 18 (0 :: ackWords s.fault)).setFault { s.fault with capture := none }) :=
  exec_ready (c := .ackFault) (p := []) ready (Nat.zero_le 63)

/-- Settles O33: a full record departs in its words, and emptying an empty one changes nothing. -/
theorem ackFaultReturnsCapture : Obligations.AckFaultReturnsCapture := by
  intro s ready
  refine ⟨fun empty => ?_, fun c full => ?_⟩
  · have same : { s.fault with capture := none } = s.fault := by rw [← empty]
    rw [exec_ackFault ready, same, ackWords, empty]
    rfl
  · rw [exec_ackFault ready, ackWords, full]
    rfl

end Sys2Proof.ControlMessages
end

section
/-! A step in the two shapes of the queue of waiting commands (log entry 15). -/

namespace Sys2Proof.CommandQueue

open Sys2Proof.Machine

variable {s : State}

/-- Log entry 15: the front command is carried out, and the rest of the queue goes on waiting. -/
theorem step_eq_exec {c : Instr} {rest : List Instr} (waiting : s.pending = c :: rest) :
    step s = exec c (s.setPending rest) := by
  rw [step, waiting]

/-- Log entry 15: with nothing waiting the part idles. -/
theorem step_eq_self (idle : s.pending = []) : step s = .next s := by
  rw [step, idle]

/-- Settles O1, by the two shapes of the queue. -/
theorem stepTakesFrontCommand : Obligations.StepTakesFrontCommand :=
  ⟨fun _ _ _ waiting => step_eq_exec waiting, fun _ idle => step_eq_self idle⟩

end Sys2Proof.CommandQueue
end
